-- ==== Sys2Proof/Word.lean ====
section
/-! DEFINITION. The one word type of the model: a byte of the record link. Every other quantity of the part is a
number with a range (00_scope 4.4) and is a natural number here. -/

namespace Sys2Proof

/-- A character of the record link (R167): 8 data bits. -/
abbrev Byte := BitVec 8

end Sys2Proof
end

