-- ==== Sys2Proof/Config.lean ====
section
/-! DEFINITION. The capacities and fixed values the part has (00_scope 2.1), and the values the manual leaves open. -/

namespace Sys2Proof.Config

/-- Live pallet records, R55. -/
def maxPallets : Nat := 4096
/-- Tasks in the pool, R92. -/
def poolSize : Nat := 1024
/-- Frames in the receive buffer, R170. -/
def bufferSize : Nat := 4
/-- Records in the report queue, R174. -/
def reportQueueSize : Nat := 64
/-- Greatest number of body bytes of a frame, R167. -/
def maxBody : Nat := 240
/-- The start byte of a frame, R169. -/
def startByte : Byte := 0xA5#8
/-- The value at which the link counts and the scanned count saturate, R60, R169, R170, R175, R176. -/
def countMax : Nat := 65535
/-- The greatest merged count of a pending alert, R87. -/
def mergedMax : Nat := 255
/-- The greatest task id, R92. -/
def maxTaskId : Nat := 65535
/-- The minute at which the clock stops, R156. -/
def lastMinute : Nat := 1440
/-- The greatest step of a CLOCK SYNC in minutes, R157. -/
def maxSyncStep : Nat := 30
/-- The greatest label, R56. -/
def maxLabel : Nat := 4294967295
/-- Allowances above this are clamped, R56, R62. -/
def maxAllowance : Nat := 2000
/-- Expected counts above this are clamped, R60. -/
def maxExpected : Nat := 255
/-- Changeover gap of a door that is not in plan, R117. -/
def defaultGap : Nat := 10

/-- FREE VALUE (log 4). Which of the works that may be taken next is taken next, for the n-th such choice: the manual
leaves the order of different blocks' work at one minute open (08 8.2, R140, R123). -/
opaque freeOrder : Nat → Nat

/-- FREE VALUE (log 9). The byte that stands for a step of n minutes backward in the reply to CLOCK SYNC: R157 gives
the step "with its sign" and R181 no encoding of a sign. -/
opaque backwardStepByte : Nat → Byte

end Sys2Proof.Config
end

