-- ==== Sys2Proof/Syntax.lean ====
section
/-! DEFINITION. The commands of the part: one constructor for each row of spec/opcode_table.json, in the table's order.
A request row carries the tag and the body of its frame (Table 10-1), an event row the object it concerns, a line event
the character received (log 1). -/

namespace Sys2Proof

/-- One step of the part (95_what_each_step_holds). -/
inductive Instr where
  /-- POWER_ON, R179. -/
  | powerOn
  /-- RESET_PIN, R179. -/
  | resetPin
  /-- LONG_BREAK, R179: the receive line has been at space for 1 s. -/
  | longBreak
  /-- BREAK, R178: the receive line has been at space for 20 ms. -/
  | lineBreak
  /-- STOP_BIT_ERROR, R167. -/
  | stopBitError
  /-- INTER_CHARACTER_TIMEOUT, R169. -/
  | interCharacterTimeout
  /-- FRAME_RECEIVED, R169: the last check byte `c` of a frame arrives. -/
  | frameReceived (c : Byte)
  /-- UNKNOWN_REQUEST_KIND, R171: a request whose kind byte names no request. -/
  | unknownRequestKind (kind tag : Byte) (body : List Byte)
  /-- REPLY_START, R173. -/
  | replyStart
  /-- REPORT_START, R176. -/
  | reportStart
  /-- STATUS, R180. -/
  | status (tag : Byte) (body : List Byte)
  /-- SET_REPORTS, R177. -/
  | setReports (tag : Byte) (body : List Byte)
  /-- NIGHT_OPEN, R160. -/
  | nightOpen (tag : Byte) (body : List Byte)
  /-- NIGHT_CLOSE, R162. -/
  | nightClose (tag : Byte) (body : List Byte)
  /-- CLOCK_SYNC, R157. -/
  | clockSync (tag : Byte) (body : List Byte)
  /-- SET_NIGHT, R133. -/
  | setNight (tag : Byte) (body : List Byte)
  /-- SET_PROFILE, R134. -/
  | setProfile (tag : Byte) (body : List Byte)
  /-- SET_DOOR, R133. -/
  | setDoor (tag : Byte) (body : List Byte)
  /-- SET_LANE, R133. -/
  | setLane (tag : Byte) (body : List Byte)
  /-- SET_DEPARTURE, R135. -/
  | setDeparture (tag : Byte) (body : List Byte)
  /-- SET_ROUTE, R136. -/
  | setRoute (tag : Byte) (body : List Byte)
  /-- SET_METHOD, R137. -/
  | setMethod (tag : Byte) (body : List Byte)
  /-- ACTIVATE, R139. -/
  | activate (tag : Byte) (body : List Byte)
  /-- GET_PLAN, R151. -/
  | getPlan (tag : Byte) (body : List Byte)
  /-- TIP_OPEN, R60. -/
  | tipOpen (tag : Byte) (body : List Byte)
  /-- PALLET_IN, R62. -/
  | palletIn (tag : Byte) (body : List Byte)
  /-- TIP_CLOSE, R61. -/
  | tipClose (tag : Byte) (body : List Byte)
  /-- BUMP_PALLET, R74. -/
  | bumpPallet (tag : Byte) (body : List Byte)
  /-- RELEASE_PALLET, R75. -/
  | releasePallet (tag : Byte) (body : List Byte)
  /-- GET_PALLET, R76. -/
  | getPallet (tag : Byte) (body : List Byte)
  /-- MOVER_ON, R98. -/
  | moverOn (tag : Byte) (body : List Byte)
  /-- MOVER_OFF, R99. -/
  | moverOff (tag : Byte) (body : List Byte)
  /-- MOVER_READY, R100. -/
  | moverReady (tag : Byte) (body : List Byte)
  /-- TASK_DONE, R102. -/
  | taskDone (tag : Byte) (body : List Byte)
  /-- TASK_FAIL, R106. -/
  | taskFail (tag : Byte) (body : List Byte)
  /-- POST_TASK, R113. -/
  | postTask (tag : Byte) (body : List Byte)
  /-- DISPATCH_HOLD, R114. -/
  | dispatchHold (tag : Byte) (body : List Byte)
  /-- GET_TASK, R115. -/
  | getTask (tag : Byte) (body : List Byte)
  /-- TASK_EXPIRY, R110: the ISSUED task `id` expires. -/
  | taskExpiry (id : Nat)
  /-- CALL_NOW, R32. -/
  | callNow (tag : Byte) (body : List Byte)
  /-- CUT_NOW, R49. -/
  | cutNow (tag : Byte) (body : List Byte)
  /-- HOLD_LOAD, R43. -/
  | holdLoad (tag : Byte) (body : List Byte)
  /-- FREE_LOAD, R44. -/
  | freeLoad (tag : Byte) (body : List Byte)
  /-- ABORT_LOAD, R45. -/
  | abortLoad (tag : Byte) (body : List Byte)
  /-- RESUME_LOAD, R46. -/
  | resumeLoad (tag : Byte) (body : List Byte)
  /-- DEPART, R50. -/
  | depart (tag : Byte) (body : List Byte)
  /-- GET_DEPARTURE, R52. -/
  | getDeparture (tag : Byte) (body : List Byte)
  /-- CALL_EVENT, R31: the due call of departure `dep`. -/
  | callEvent (dep : Nat)
  /-- LATE_MARGIN_EVENT, R41: the due late-margin event of departure `dep`. -/
  | lateMarginEvent (dep : Nat)
  /-- CUT_EVENT, R47: the due cut of departure `dep`. -/
  | cutEvent (dep : Nat)
  /-- DOOR_FAULT, R124. -/
  | doorFault (tag : Byte) (body : List Byte)
  /-- DOOR_CLEAR, R126. -/
  | doorClear (tag : Byte) (body : List Byte)
  /-- DOOR_RESUME, R127. -/
  | doorResume (tag : Byte) (body : List Byte)
  /-- GET_DOOR, R128. -/
  | getDoor (tag : Byte) (body : List Byte)
  /-- CHANGEOVER_END, R123: the changeover of `door` ends. -/
  | changeoverEnd (door : Nat)
  /-- WATCH_LANES, R85. -/
  | watchLanes (tag : Byte) (body : List Byte)
  /-- ACK_ALERT, R88. -/
  | ackAlert (tag : Byte) (body : List Byte)
  /-- GET_LANE, R89. -/
  | getLane (tag : Byte) (body : List Byte)
  /-- MINUTE_TICK, R154. -/
  | minuteTick
  /-- WAVE_BOUNDARY, R155. -/
  | waveBoundary
  /-- END_REACHED, R156. -/
  | endReached
  /-- TIME_BASE_SECOND, R153. -/
  | timeBaseSecond
  /-- CHARACTER_RECEIVED, R169: a valid character `c` arrives. -/
  | characterReceived (c : Byte)
  /-- RECEIVE_LINE_TO_MARK, R178. -/
  | receiveLineToMark
  /-- FRAME_SENT, R173. -/
  | frameSent
deriving DecidableEq, Repr

end Sys2Proof
end

