-- ==== Sys2Proof/WellFormed.lean ====
section
/-! DEFINITION. Which terms of `Instr` name a step that can occur at all: a frame has at most 240 body bytes (R167), an
unknown kind is not in Table 10-2, and an object number is in its range (00_scope 4.2). -/

namespace Sys2Proof

/-- The request kind codes of Table 10-2. -/
def requestKinds : List Byte :=
  [0x01#8, 0x02#8, 0x10#8, 0x11#8, 0x12#8, 0x20#8, 0x21#8, 0x22#8, 0x23#8, 0x24#8,
   0x25#8, 0x26#8, 0x27#8, 0x28#8, 0x30#8, 0x31#8, 0x32#8, 0x33#8, 0x34#8, 0x35#8,
   0x40#8, 0x41#8, 0x42#8, 0x43#8, 0x44#8, 0x45#8, 0x46#8, 0x47#8, 0x50#8, 0x51#8,
   0x52#8, 0x53#8, 0x54#8, 0x55#8, 0x56#8, 0x57#8, 0x60#8, 0x61#8, 0x62#8, 0x63#8,
   0x70#8, 0x71#8, 0x72#8]

/-- A body that a frame can carry, R167. -/
def bodyFits (body : List Byte) : Bool := body.length ≤ Config.maxBody

/-- Well-formed commands. -/
def Instr.wellFormed : Instr → Bool
  | .powerOn => true
  | .resetPin => true
  | .longBreak => true
  | .lineBreak => true
  | .stopBitError => true
  | .interCharacterTimeout => true
  | .frameReceived _ => true
  | .unknownRequestKind kind _ body => !requestKinds.contains kind && bodyFits body
  | .replyStart => true
  | .reportStart => true
  | .status _ body => bodyFits body
  | .setReports _ body => bodyFits body
  | .nightOpen _ body => bodyFits body
  | .nightClose _ body => bodyFits body
  | .clockSync _ body => bodyFits body
  | .setNight _ body => bodyFits body
  | .setProfile _ body => bodyFits body
  | .setDoor _ body => bodyFits body
  | .setLane _ body => bodyFits body
  | .setDeparture _ body => bodyFits body
  | .setRoute _ body => bodyFits body
  | .setMethod _ body => bodyFits body
  | .activate _ body => bodyFits body
  | .getPlan _ body => bodyFits body
  | .tipOpen _ body => bodyFits body
  | .palletIn _ body => bodyFits body
  | .tipClose _ body => bodyFits body
  | .bumpPallet _ body => bodyFits body
  | .releasePallet _ body => bodyFits body
  | .getPallet _ body => bodyFits body
  | .moverOn _ body => bodyFits body
  | .moverOff _ body => bodyFits body
  | .moverReady _ body => bodyFits body
  | .taskDone _ body => bodyFits body
  | .taskFail _ body => bodyFits body
  | .postTask _ body => bodyFits body
  | .dispatchHold _ body => bodyFits body
  | .getTask _ body => bodyFits body
  | .taskExpiry id => 1 ≤ id && id ≤ Config.maxTaskId
  | .callNow _ body => bodyFits body
  | .cutNow _ body => bodyFits body
  | .holdLoad _ body => bodyFits body
  | .freeLoad _ body => bodyFits body
  | .abortLoad _ body => bodyFits body
  | .resumeLoad _ body => bodyFits body
  | .depart _ body => bodyFits body
  | .getDeparture _ body => bodyFits body
  | .callEvent dep => 1 ≤ dep && dep ≤ 48
  | .lateMarginEvent dep => 1 ≤ dep && dep ≤ 48
  | .cutEvent dep => 1 ≤ dep && dep ≤ 48
  | .doorFault _ body => bodyFits body
  | .doorClear _ body => bodyFits body
  | .doorResume _ body => bodyFits body
  | .getDoor _ body => bodyFits body
  | .changeoverEnd door => 1 ≤ door && door ≤ 32
  | .watchLanes _ body => bodyFits body
  | .ackAlert _ body => bodyFits body
  | .getLane _ body => bodyFits body
  | .minuteTick => true
  | .waveBoundary => true
  | .endReached => true
  | .timeBaseSecond => true
  | .characterReceived _ => true
  | .receiveLineToMark => true
  | .frameSent => true

end Sys2Proof
end

