-- ==== Sys2Proof/Decode.lean ====
section
/-! DEFINITION. The commands that a word of spec/opcode_table.json spells. The table gives none of its 65 rows any bits
(no "fixed", and "fields" is empty), so no word spells a command (log 29). The bytes of requests, replies and reports
are read and written in Machine/Operands.lean. -/

namespace Sys2Proof

/-- The command that the word `w` of `nbits` bits spells by the table's bits: the table gives no row any. -/
def decodeTableWord (_nbits _w : Nat) : Option Instr := none

end Sys2Proof
end

