-- ==== Sys2Proof/Machine/State.lean ====
section
/-! DEFINITION. The state of the part, block by block as 00_scope 2.1 lists them, and its values after a full reset. -/

namespace Sys2Proof.Machine

/-- A table keyed by number, as a list of cells with strictly rising keys. `Machine/Table.lean` has its operations. -/
structure Tab (α : Type) where
  cells : List (Nat × α)
deriving DecidableEq, Repr

/-- The table with no entry. -/
def Tab.empty {α : Type} : Tab α := ⟨[]⟩

/-! ## The record link (chapter 9) -/

/-- A frame without its start byte, length and check, Table 10-1. -/
structure Frame where
  kind : Byte
  tag : Byte
  body : List Byte
deriving DecidableEq, Repr

/-- The receiver's phase with the bytes under assembly, R169. -/
inductive Rx where
  /-- HUNT: no frame under assembly. -/
  | hunt
  /-- HEADER: the bytes taken so far of length, kind and tag. -/
  | header (got : List Byte)
  /-- BODY: the length, kind and tag, and the body and check bytes taken so far. -/
  | body (length kind tag : Byte) (got : List Byte)
deriving DecidableEq, Repr

inductive PalletState where
  | atDoor | inTransit | inLane | loading | onTrailer | held | exception | missing
deriving DecidableEq, Repr

inductive ServiceClass where
  | economy | standard | priority | timed
deriving DecidableEq, Repr

inductive ExceptionReason where
  | weight | height | depot | noRoute | damaged
deriving DecidableEq, Repr

/-- Cause of a PALLET NOTE, R73. -/
inductive NoteCause where
  | cut | replacement | bumpLift | carry | notFound | depart
deriving DecidableEq, Repr

/-- Why a call left a departure WAITING DOOR, R31, R121. -/
inductive DeferReason where
  | changeover | faulted | occupied | notOutbound
deriving DecidableEq, Repr

inductive PlanKind where
  | night | profile | door | lane | departure | route
deriving DecidableEq, Repr

/-- Cause of an update point, R138. -/
inductive UpdateCause where
  | write | boundary | sync | activate | nightOpen
deriving DecidableEq, Repr

/-- Why a plan entry is rejected, R143 to R149. -/
inductive RejectReason where
  | profileInUse | split | doorBusy | laneOccupancy | departureState | deckFixed | missingReference | times
  | laneRoles | inUse | notPresent | routeService
deriving DecidableEq, Repr

inductive AlertKind where
  | high | low
deriving DecidableEq, Repr

/-- The kinds of DEPARTURE NOTE with their further detail, R53. -/
inductive DepartureEvent where
  | called (calledMinute : Nat)
  | deferred (reason : DeferReason)
  | loaded
  | stopped
  | cut (removed : Nat)
  | closed (freed missing : Nat)
deriving DecidableEq, Repr

/-- The kinds of PALLET NOTE with their further detail, R73. -/
inductive PalletEvent where
  | held (cause : NoteCause)
  | exception (reason : ExceptionReason)
  | missing (cause : NoteCause)
  | rerouted (former pos tier : Nat) (cause : NoteCause)
  | replaced (formerPos formerTier pos tier : Nat)
deriving DecidableEq, Repr

/-- A report's kind, detail code and detail, Table 10-8. -/
inductive Note where
  | departure (event : DepartureEvent) (w k b : Nat)
  | pallet (label : Nat) (event : PalletEvent)
  | lane (kind : AlertKind) (occupancy limit present incoming merged : Nat)
  | plan (kind : PlanKind) (cause : UpdateCause) (withdrawal : Bool) (rejected : Option RejectReason)
  | wave (boundary length : Nat)
  | tip (isOver : Bool) (origin expected scanned : Nat)
  | task (mover level dep done total : Nat)
deriving DecidableEq, Repr

/-- A report record, R174. -/
structure Report where
  minute : Nat
  object : Nat
  note : Note
  droppedBefore : Nat
deriving DecidableEq, Repr

/-- The record link, chapter 9. -/
structure Link where
  /-- Receiver phase and frame under assembly, R169. -/
  rx : Rx
  /-- The receiver waits for the line to return to mark, R167, R178, R179. -/
  waitMark : Bool
  /-- The space lasts beyond 1 s: the part stays reset and takes no request, R179. -/
  heldInReset : Bool
  /-- Receive buffer, oldest first, R170. -/
  buffer : List Frame
  /-- The reply of the request in hand, while the reply slot has no room for it, R171, R173. -/
  inHand : Option Frame
  /-- Reply slot, R173. -/
  slot : Option Frame
  /-- The bytes of the frame under transmission, R167, R173. -/
  tx : Option (List Byte)
  /-- Report queue, head first, R174. -/
  reports : List Report
  /-- Report gate OPEN, R174. -/
  gateOpen : Bool
  /-- Overrun mode REPLACE (KEEP when clear), R175. -/
  replaceMode : Bool
  framingErrors : Nat
  droppedRequests : Nat
  droppedReports : Nat
  pendingDrops : Nat
deriving DecidableEq, Repr

/-- The link after a full reset, R179. -/
def Link.reset : Link where
  rx := .hunt
  waitMark := false
  heldInReset := false
  buffer := []
  inHand := none
  slot := none
  tx := none
  reports := []
  gateOpen := true
  replaceMode := false
  framingErrors := 0
  droppedRequests := 0
  droppedReports := 0
  pendingDrops := 0

/-! ## The plan store (chapter 7) -/

/-- NIGHT entry, R133. -/
structure NightEntry where
  waveLength : Nat
  lateMargin : Nat
  taskLimit : Nat
deriving DecidableEq, Repr

/-- PROFILE entry, Table 1-1; `levers` has `rows` items. -/
structure Profile where
  rows : Nat
  tiers : Nat
  clearHeight : Nat
  payload : Nat
  kingpin : Nat
  bogie : Nat
  levers : List Nat
deriving DecidableEq, Repr

inductive DoorRole where
  | closed | inbound | outbound
deriving DecidableEq, Repr

inductive FaultMode where
  | latched | wave
deriving DecidableEq, Repr

/-- DOOR entry, R133. -/
structure DoorEntry where
  role : DoorRole
  gap : Nat
  mode : FaultMode
deriving DecidableEq, Repr

/-- DEPARTURE entry with its withdraw flag clear, R135. Secondary lanes and the drop2 fields may be absent. -/
structure DepartureEntry where
  profile : Nat
  drop1 : Nat
  drop2 : Option Nat
  split : Nat
  primary1 : Nat
  secondary1 : Option Nat
  primary2 : Option Nat
  secondary2 : Option Nat
  door : Nat
  call : Nat
  cut : Nat
  batch : Nat
  reserve : Nat
deriving DecidableEq, Repr

/-- A pending DEPARTURE entry, R131, R135. -/
inductive DepartureWrite where
  | withdraw
  | entry (e : DepartureEntry)
deriving DecidableEq, Repr

/-- The active copy, R130. -/
structure ActivePlan where
  night : NightEntry
  profiles : Tab Profile
  doors : Tab DoorEntry
  lanes : Tab Nat
  departures : Tab DepartureEntry
  routes : Tab (List Nat)
deriving DecidableEq, Repr

/-- The shadow copy: at most one pending entry per object, R131. -/
structure Shadow where
  night : Option NightEntry
  profiles : Tab Profile
  doors : Tab DoorEntry
  lanes : Tab Nat
  departures : Tab DepartureWrite
  routes : Tab (List Nat)
deriving DecidableEq, Repr

inductive UpdateMethod where
  | immediate | boundary | sync | boundaryOrSync
deriving DecidableEq, Repr

structure PlanStore where
  active : ActivePlan
  shadow : Shadow
  method : UpdateMethod
deriving DecidableEq, Repr

/-- The shadow with no pending entry. -/
def Shadow.empty : Shadow where
  night := none
  profiles := .empty
  doors := .empty
  lanes := .empty
  departures := .empty
  routes := .empty

/-- The plan store after a full reset, R152. -/
def PlanStore.reset : PlanStore where
  active :=
    { night := { waveLength := 60, lateMargin := 15, taskLimit := 10 }
      profiles := .empty
      doors := .empty
      lanes := .empty
      departures := .empty
      routes := .empty }
  shadow := .empty
  method := .boundary

/-! ## The night clock (chapter 8) -/

/-- R153. -/
structure Clock where
  isOpen : Bool
  minute : Nat
  second : Nat
  endReached : Bool
  wave : Nat
  lastBoundary : Nat
deriving DecidableEq, Repr

/-- The clock after a full reset, R165. -/
def Clock.reset : Clock where
  isOpen := false
  minute := 0
  second := 0
  endReached := false
  wave := 0
  lastBoundary := 0

/-! ## Pallets and tips (chapter 3) -/

/-- A location, R181: a door, a floor location 0 to 65, or a place on a departure's trailer. -/
inductive Loc where
  | door (n : Nat)
  | floor (n : Nat)
  | trailer (dep pos tier : Nat)
deriving DecidableEq, Repr

/-- A pallet record, Table 3-1. `slot` is the position and tier of its deck entry. -/
structure Pallet where
  label : Nat
  consignment : Option Nat
  origin : Nat
  dest : Nat
  cls : ServiceClass
  weight : Nat
  height : Nat
  allowance : Nat
  state : PalletState
  loc : Option Loc
  dep : Option Nat
  slot : Option (Nat × Nat)
  scanMinute : Nat
  reason : Option ExceptionReason
deriving DecidableEq, Repr

/-- A door's tip record, R60. -/
structure Tip where
  origin : Nat
  expected : Nat
  scanned : Nat
  openMinute : Nat
deriving DecidableEq, Repr

/-- A cleared tip record, R60. -/
def Tip.clear : Tip := { origin := 0, expected := 0, scanned := 0, openMinute := 0 }

/-! ## Deck maps (chapter 1) -/

inductive LoadStatus where
  | planned | released | loaded
deriving DecidableEq, Repr

/-- A deck entry, R5. -/
structure Entry where
  ref : Nat
  status : LoadStatus
deriving DecidableEq, Repr

/-- A deck map: the stack of each position from position 1 on, each bottom to top, and the totals, R5, R10. -/
structure Deck where
  places : List (List Entry)
  w : Nat
  m : Nat
  used : Nat
deriving DecidableEq, Repr

/-- The empty deck map with `n` positions, R5. -/
def Deck.blank (n : Nat) : Deck := { places := List.replicate n [], w := 0, m := 0, used := 0 }

/-! ## Departures (chapter 2) -/

inductive DepState where
  | planned | waitingDoor | loading | loaded | stopping | stopped | cut | closed
deriving DecidableEq, Repr

/-- A departure record, R28. -/
structure Departure where
  state : DepState
  callMark : Bool
  marginMark : Bool
  cutMark : Bool
  calledMinute : Option Nat
  doorTaken : Bool
  hold : Bool
  stalled : Bool
  removedAtCut : Nat
  departMinute : Option Nat
deriving DecidableEq, Repr

/-- A record with clear marks, flags and minutes, R54. -/
def Departure.fresh (st : DepState) : Departure where
  state := st
  callMark := false
  marginMark := false
  cutMark := false
  calledMinute := none
  doorTaken := false
  hold := false
  stalled := false
  removedAtCut := 0
  departMinute := none

/-! ## Doors (chapter 6) -/

/-- What a door is doing, R117: the holder is present exactly when OCCUPIED, the end exactly when CHANGEOVER. -/
inductive Underlying where
  | closed
  | inboundFree
  | tipping
  | outboundFree
  | occupied (holder : Nat)
  | changeover (till : Nat)
deriving DecidableEq, Repr

/-- A door record, R117. Its role, gap and fault mode are read from the active plan. -/
structure Door where
  underlying : Underlying
  faulted : Bool
  condition : Bool
  faultMinute : Option Nat
deriving DecidableEq, Repr

/-- A door record after a full reset, R129. -/
def Door.reset : Door := { underlying := .closed, faulted := false, condition := false, faultMinute := none }

/-! ## Lanes (chapter 4) -/

/-- A pending alert record, R87. -/
structure Alert where
  kind : AlertKind
  minute : Nat
  merged : Nat
deriving DecidableEq, Repr

/-- A lane record, R77: references in arrival order. Capacity and binding are read from the active plan. -/
structure Lane where
  present : List Nat
  incoming : Nat
  high : Option Nat
  low : Option Nat
  alert : Option Alert
deriving DecidableEq, Repr

/-- A lane record after a full reset, R91. -/
def Lane.reset : Lane := { present := [], incoming := 0, high := none, low := none, alert := none }

/-! ## The dispatcher (chapter 5) -/

inductive TaskKind where
  | tip | direct | load | relocate | posted
deriving DecidableEq, Repr

/-- A task record, Table 5-1. It is ISSUED exactly when `mover` is present. The first `done` items of `pallets` have
been moved. -/
structure Task where
  kind : TaskKind
  level : Nat
  src : Loc
  dst : Loc
  pallets : List Nat
  total : Nat
  done : Nat
  mover : Option Nat
  lastMover : Option Nat
  issueMinute : Option Nat
  dep : Option Nat
  mark : Bool
deriving DecidableEq, Repr

/-- An entry of the creation backlog, R94. -/
structure BacklogEntry where
  kind : TaskKind
  level : Nat
  src : Loc
  dst : Loc
  pallet : Nat
deriving DecidableEq, Repr

/-- R97: the current task is present exactly when BUSY. -/
inductive MoverState where
  | off
  | idle
  | busy (task : Nat)
deriving DecidableEq, Repr

structure Mover where
  state : MoverState
  last : Option Nat
deriving DecidableEq, Repr

/-- A mover after a full reset, R97. -/
def Mover.reset : Mover := { state := .off, last := none }

/-! ## The floor: the blocks that move pallets -/

/-- Pallet table, tips, deck planner, departure control, door control, lane table and dispatcher. -/
structure Floor where
  /-- Pallet records by reference, R55. -/
  pallets : Tab Pallet
  /-- Tip records by door; an unlisted door's record is clear, R60. -/
  tips : Tab Tip
  /-- Deck maps by departure; an unlisted one has no positions, R5. -/
  decks : Tab Deck
  /-- Departure records by number, R28. -/
  departures : Tab Departure
  /-- Waiting list, R33. -/
  waiting : List Nat
  /-- Door records; an unlisted door stands as after reset, R117. -/
  doors : Tab Door
  /-- Lane records; an unlisted lane stands as after reset, R77. -/
  lanes : Tab Lane
  /-- The pool by task id, R92. -/
  tasks : Tab Task
  /-- Level queues of task ids, head first; an unlisted level is empty, R95. -/
  queues : Tab (List Nat)
  /-- ISSUED tasks in order of issue, R110. -/
  issued : List Nat
  /-- Creation backlog, oldest first, R94. -/
  backlog : List BacklogEntry
  /-- Next-id value, R93. -/
  nextId : Nat
  /-- Movers; an unlisted one stands as after reset, R97. -/
  movers : Tab Mover
  /-- Dispatch hold flag, R114. -/
  dispatchHold : Bool
deriving DecidableEq, Repr

/-- The floor after a full reset, R27, R54, R59, R60, R91, R116, R129. -/
def Floor.reset : Floor where
  pallets := .empty
  tips := .empty
  decks := .empty
  departures := .empty
  waiting := []
  doors := .empty
  lanes := .empty
  tasks := .empty
  queues := .empty
  issued := []
  backlog := []
  nextId := 1
  movers := .empty
  dispatchHold := false

/-! ## Work of a minute, and the whole state -/

/-- One block's work at a tick or a forward CLOCK SYNC, R154, R158, R140. -/
inductive WorkItem where
  /-- Departure control's examination for due events, R29. -/
  | departures
  /-- Expiry of the tasks found due, in order of issue, R110. -/
  | expiry (ids : List Nat)
  /-- Ends of changeovers, R123. -/
  | doors
  /-- The boundary test over the minutes after `since`, R155, R158. -/
  | wave (since : Nat)
  /-- The update point of a CLOCK SYNC, R138. -/
  | syncUpdate
  /-- END_REACHED, R156. -/
  | endOfClock
deriving DecidableEq, Repr

/-- Work handed to the blocks and not yet taken (log 3). `started` is the block whose work has begun and not ended. -/
structure Work where
  started : Option WorkItem
  waiting : List WorkItem
deriving DecidableEq, Repr

/-- No work outstanding. -/
def Work.clear : Work := { started := none, waiting := [] }

/-- The whole part, with the queue of commands that wait. -/
structure State where
  link : Link
  clock : Clock
  plan : PlanStore
  floor : Floor
  /-- The model's own: work of the last tick still to be taken (log 3, 28). -/
  work : Work
  /-- The model's own: choices made so far with `Config.freeOrder` (log 4, 28). -/
  draws : Nat
  /-- The commands that wait, first in, first out. -/
  pending : List Instr
deriving DecidableEq, Repr

/-- The part after a full reset, R179, with no command waiting. -/
def State.reset : State where
  link := .reset
  clock := .reset
  plan := .reset
  floor := .reset
  work := .clear
  draws := 0
  pending := []

/-- Why the part would stop with a fault. No rule of the manual stops the part, so there is no constructor. -/
inductive Fault where
deriving DecidableEq, Repr

/-- Why the model refuses a command. -/
inductive Refusal where
  /-- Raised by `exec` alone, for a row of the opcode table that has no meaning yet. Safe: the model stops where the
  part goes on. -/
  | notModelled (mnemonic : String)
deriving DecidableEq, Repr

end Sys2Proof.Machine
end

