-- ==== Sys2Proof/Machine/Table.lean ====
section
/-! DEFINITION. The operations of `Tab`, the numbered tables in which the state keeps its records. -/

namespace Sys2Proof.Machine

/-- The value under key `k`, if any. -/
def cellGet {α : Type} : List (Nat × α) → Nat → Option α
  | [], _ => none
  | (j, v) :: rest, k => if j = k then some v else cellGet rest k

/-- The cells with `v` under `k`, keys staying in rising order. -/
def cellPut {α : Type} : List (Nat × α) → Nat → α → List (Nat × α)
  | [], k, v => [(k, v)]
  | (j, u) :: rest, k, v =>
    if k < j then (k, v) :: (j, u) :: rest
    else if j = k then (k, v) :: rest
    else (j, u) :: cellPut rest k v

/-- The cells without key `k`. -/
def cellErase {α : Type} : List (Nat × α) → Nat → List (Nat × α)
  | [], _ => []
  | (j, u) :: rest, k => if j = k then cellErase rest k else (j, u) :: cellErase rest k

def Tab.get {α : Type} (t : Tab α) (k : Nat) : Option α := cellGet t.cells k

def Tab.put {α : Type} (t : Tab α) (k : Nat) (v : α) : Tab α := ⟨cellPut t.cells k v⟩

def Tab.erase {α : Type} (t : Tab α) (k : Nat) : Tab α := ⟨cellErase t.cells k⟩

/-- Replaces the value under `k`, if there is one, by `f` of it. -/
def Tab.modify {α : Type} (t : Tab α) (k : Nat) (f : α → α) : Tab α :=
  match t.get k with
  | some v => t.put k (f v)
  | none => t

def Tab.has {α : Type} (t : Tab α) (k : Nat) : Bool := (t.get k).isSome

/-- The keys, in rising order. -/
def Tab.keys {α : Type} (t : Tab α) : List Nat := t.cells.map (·.1)

def Tab.size {α : Type} (t : Tab α) : Nat := t.cells.length

/-- The values, in rising order of their keys. -/
def Tab.values {α : Type} (t : Tab α) : List α := t.cells.map (·.2)

/-- The value under `k` of a table in which an unlisted key stands for the value `d`. -/
def Tab.at {α : Type} (d : α) (t : Tab α) (k : Nat) : α := (t.get k).getD d

/-- Writes to such a table: the value `d` is not listed. -/
def Tab.set {α : Type} [DecidableEq α] (d : α) (t : Tab α) (k : Nat) (v : α) : Tab α :=
  if v = d then t.erase k else t.put k v

/-- The keys rise strictly from cell to cell. -/
def cellsRise {α : Type} : List (Nat × α) → Bool
  | [] => true
  | (j, _) :: rest =>
    (match rest with
      | [] => true
      | (k, _) :: _ => decide (j < k)) && cellsRise rest

/-- The canonical form of a table: strictly rising keys. -/
def Tab.wf {α : Type} (t : Tab α) : Bool := cellsRise t.cells

/-- The lowest number from `n` on that is not a key of the rising cells, R55. -/
def lowestFree {α : Type} : Nat → List (Nat × α) → Nat
  | n, [] => n
  | n, (k, _) :: rest => if k = n then lowestFree (n + 1) rest else n

end Sys2Proof.Machine
end

