-- ==== Sys2Proof/Machine/Flags.lean ====
section
/-! DEFINITION. The code values of Table 10-3, the codes of reports in Tables 10-7 and 10-8, and saturating counts. -/

namespace Sys2Proof.Machine

/-- Refusal codes, R172. -/
inductive RefusalCode where
  | format | kind | range | unknown | state | full | inUse | duplicate | stale | night
deriving DecidableEq, Repr

def RefusalCode.code : RefusalCode → Nat
  | .format => 1
  | .kind => 2
  | .range => 3
  | .unknown => 4
  | .state => 5
  | .full => 6
  | .inUse => 7
  | .duplicate => 8
  | .stale => 9
  | .night => 10

/-- Why a QUEUED task is not eligible, R96, R115. -/
inductive Ineligible where
  | dispatchHold | doorFault | departureHold | tier
deriving DecidableEq, Repr

/-- The roles of a lane, R77. -/
inductive LaneRole where
  | drop1Primary | drop1Secondary | drop2Primary | drop2Secondary
deriving DecidableEq, Repr

/-- A count that stays at `top` once it has reached it (00_scope 4.4). -/
def satAdd (top n k : Nat) : Nat := min top (n + k)

def ServiceClass.ofCode : Nat → Option ServiceClass
  | 0 => some .economy
  | 1 => some .standard
  | 2 => some .priority
  | 3 => some .timed
  | _ => none

def ServiceClass.code : ServiceClass → Nat
  | .economy => 0
  | .standard => 1
  | .priority => 2
  | .timed => 3

def TaskKind.code : TaskKind → Nat
  | .tip => 1
  | .direct => 2
  | .load => 3
  | .relocate => 4
  | .posted => 5

def ExceptionReason.code : ExceptionReason → Nat
  | .weight => 1
  | .height => 2
  | .depot => 3
  | .noRoute => 4
  | .damaged => 5

def PalletState.code : PalletState → Nat
  | .atDoor => 1
  | .inTransit => 2
  | .inLane => 3
  | .loading => 4
  | .onTrailer => 5
  | .held => 6
  | .exception => 7
  | .missing => 8

def NoteCause.code : NoteCause → Nat
  | .cut => 1
  | .replacement => 2
  | .bumpLift => 3
  | .carry => 4
  | .notFound => 5
  | .depart => 6

def DeferReason.code : DeferReason → Nat
  | .changeover => 1
  | .faulted => 2
  | .occupied => 3
  | .notOutbound => 4

def PlanKind.code : PlanKind → Nat
  | .night => 0
  | .profile => 1
  | .door => 2
  | .lane => 3
  | .departure => 4
  | .route => 5

def PlanKind.ofCode : Nat → Option PlanKind
  | 0 => some .night
  | 1 => some .profile
  | 2 => some .door
  | 3 => some .lane
  | 4 => some .departure
  | 5 => some .route
  | _ => none

def UpdateCause.code : UpdateCause → Nat
  | .write => 1
  | .boundary => 2
  | .sync => 3
  | .activate => 4
  | .nightOpen => 5

def RejectReason.code : RejectReason → Nat
  | .profileInUse => 1
  | .split => 2
  | .doorBusy => 3
  | .laneOccupancy => 4
  | .departureState => 5
  | .deckFixed => 6
  | .missingReference => 7
  | .times => 8
  | .laneRoles => 9
  | .inUse => 10
  | .notPresent => 11
  | .routeService => 12

def DepState.code : DepState → Nat
  | .planned => 1
  | .waitingDoor => 2
  | .loading => 3
  | .loaded => 4
  | .stopping => 5
  | .stopped => 6
  | .cut => 7
  | .closed => 8

def LoadStatus.code : LoadStatus → Nat
  | .planned => 1
  | .released => 2
  | .loaded => 3

def Ineligible.code : Ineligible → Nat
  | .dispatchHold => 1
  | .doorFault => 2
  | .departureHold => 3
  | .tier => 4

def DoorRole.code : DoorRole → Nat
  | .closed => 0
  | .inbound => 1
  | .outbound => 2

def DoorRole.ofCode : Nat → Option DoorRole
  | 0 => some .closed
  | 1 => some .inbound
  | 2 => some .outbound
  | _ => none

def FaultMode.code : FaultMode → Nat
  | .latched => 0
  | .wave => 1

def FaultMode.ofCode : Nat → Option FaultMode
  | 0 => some .latched
  | 1 => some .wave
  | _ => none

/-- The door state code of an underlying state. -/
def Underlying.code : Underlying → Nat
  | .closed => 0
  | .inboundFree => 1
  | .tipping => 2
  | .outboundFree => 3
  | .occupied _ => 4
  | .changeover _ => 5

/-- The door state code of FAULTED. -/
def faultedCode : Nat := 6

/-- The state code of a door, R117: FAULTED while the faulted flag is set. -/
def Door.stateCode (d : Door) : Nat := if d.faulted then faultedCode else d.underlying.code

/-- What releases a FAULTED door, R126: 1 RESUME, 2 BOUNDARY. -/
def FaultMode.releaseCode : FaultMode → Nat
  | .latched => 1
  | .wave => 2

def LaneRole.code : LaneRole → Nat
  | .drop1Primary => 1
  | .drop1Secondary => 2
  | .drop2Primary => 3
  | .drop2Secondary => 4

def AlertKind.code : AlertKind → Nat
  | .high => 1
  | .low => 2

def UpdateMethod.code : UpdateMethod → Nat
  | .immediate => 0
  | .boundary => 1
  | .sync => 2
  | .boundaryOrSync => 3

def UpdateMethod.ofCode : Nat → Option UpdateMethod
  | 0 => some .immediate
  | 1 => some .boundary
  | 2 => some .sync
  | 3 => some .boundaryOrSync
  | _ => none

/-- Wave boundaries are update points, R138. -/
def UpdateMethod.atBoundary : UpdateMethod → Bool
  | .boundary | .boundaryOrSync => true
  | .immediate | .sync => false

/-- Every CLOCK SYNC taken is an update point, R138. -/
def UpdateMethod.atSync : UpdateMethod → Bool
  | .sync | .boundaryOrSync => true
  | .immediate | .boundary => false

def MoverState.isOff : MoverState → Bool
  | .off => true
  | .idle | .busy _ => false

def MoverState.isIdle : MoverState → Bool
  | .idle => true
  | .off | .busy _ => false

def MoverState.isBusy : MoverState → Bool
  | .busy _ => true
  | .off | .idle => false

/-- TASK FAIL reasons, R106. -/
inductive FailReason where
  | notFound | blocked | damaged
deriving DecidableEq, Repr

def FailReason.ofCode : Nat → Option FailReason
  | 1 => some .notFound
  | 2 => some .blocked
  | 3 => some .damaged
  | _ => none

/-- A two-valued code or flag, R181: any other value has no meaning. -/
def flagOfCode : Nat → Option Bool
  | 0 => some false
  | 1 => some true
  | _ => none

/-! ## Report kinds and detail codes, Tables 10-7 and 10-8 -/

def Note.kindCode : Note → Nat
  | .departure .. => 1
  | .pallet .. => 2
  | .lane .. => 3
  | .plan .. => 4
  | .wave .. => 5
  | .tip .. => 6
  | .task .. => 7

def DepartureEvent.code : DepartureEvent → Nat
  | .called _ => 1
  | .deferred _ => 2
  | .loaded => 3
  | .stopped => 4
  | .cut _ => 5
  | .closed _ _ => 6

def PalletEvent.code : PalletEvent → Nat
  | .held _ => 1
  | .exception _ => 2
  | .missing _ => 3
  | .rerouted .. => 4
  | .replaced .. => 5

def Note.detailCode : Note → Nat
  | .departure e _ _ _ => e.code
  | .pallet _ e => e.code
  | .lane k .. => k.code
  | .plan _ _ _ rejected => if rejected.isNone then 1 else 2
  | .wave .. => 0
  | .tip isOver .. => if isOver then 2 else 1
  | .task .. => 1

end Sys2Proof.Machine
end

