-- ==== Sys2Proof/Machine/Operands.lean ====
section
/-! DEFINITION. The bytes of the link: reading the fields of a request body, writing the fields of a reply or report,
and the frame with its check (R168, R181 to R185, chapter 10). -/

namespace Sys2Proof.Machine

/-! ## Reading a body, R181 -/

/-- The 1-byte field at offset `i`. -/
def u8 (body : List Byte) (i : Nat) : Nat := (body.getD i 0#8).toNat

/-- The 2-byte little-endian field at offset `i`. -/
def u16 (body : List Byte) (i : Nat) : Nat := u8 body i + 256 * u8 body (i + 1)

/-- The 4-byte little-endian field at offset `i`. -/
def u32 (body : List Byte) (i : Nat) : Nat := u16 body i + 65536 * u16 body (i + 2)

/-- An optional object number: 0 when absent. -/
def optField (n : Nat) : Option Nat := if n = 0 then none else some n

/-- A watch limit: 255 for none. -/
def limitField (n : Nat) : Option Nat := if n = 255 then none else some n

/-- A location field of a POST TASK, R113, R181: a door 1 to 32 or a location 0 to 65, position and tier 0 (log 10). -/
def postedLoc (body : List Byte) (i : Nat) : Option Loc :=
  let n := u8 body (i + 1)
  if u8 body (i + 2) ≠ 0 ∨ u8 body (i + 3) ≠ 0 then none
  else
    match u8 body i with
    | 0 => if 1 ≤ n ∧ n ≤ 32 then some (.door n) else none
    | 1 => if n ≤ 65 then some (.floor n) else none
    | _ => none

/-! ## Writing a body, R181 -/

def byteOf (n : Nat) : Byte := BitVec.ofNat 8 n

def le8 (n : Nat) : List Byte := [byteOf n]

def le16 (n : Nat) : List Byte := [byteOf n, byteOf (n / 256)]

def le32 (n : Nat) : List Byte := le16 n ++ le16 (n / 65536)

def flag8 (b : Bool) : List Byte := le8 (if b then 1 else 0)

/-- An optional object number of one byte. -/
def opt8 (o : Option Nat) : List Byte := le8 (o.getD 0)

def opt16 (o : Option Nat) : List Byte := le16 (o.getD 0)

def opt32 (o : Option Nat) : List Byte := le32 (o.getD 0)

/-- An optional night minute: 0xFFFF when absent. -/
def minute16 (o : Option Nat) : List Byte := le16 (o.getD 65535)

/-- A watch limit: 255 for none. -/
def limit8 (o : Option Nat) : List Byte := le8 (o.getD 255)

/-- The place of an item in a list, 1 for the first, 0 when it is not there. -/
def placeIn (x : Nat) : List Nat → Nat
  | [] => 0
  | z :: rest =>
    if z = x then 1
    else
      match placeIn x rest with
      | 0 => 0
      | n + 1 => n + 2

/-- The 4-byte location form, R181. -/
def locBytes : Loc → List Byte
  | .door n => [0#8, byteOf n, 0#8, 0#8]
  | .floor n => [1#8, byteOf n, 0#8, 0#8]
  | .trailer d p t => [2#8, byteOf d, byteOf p, byteOf t]

/-- An absent location is 0 throughout. -/
def optLocBytes (o : Option Loc) : List Byte :=
  match o with
  | some l => locBytes l
  | none => [0#8, 0#8, 0#8, 0#8]

/-! ## The check, R168 -/

/-- One bit of the register with generator x^16 + x^12 + x^5 + 1, most significant bit first. -/
def crcBit (c : BitVec 16) : BitVec 16 := if c.msb then (c <<< 1) ^^^ 0x1021#16 else c <<< 1

def crcByte (c : BitVec 16) (b : Byte) : BitVec 16 :=
  Nat.repeat crcBit 8 (c ^^^ ((b.setWidth 16) <<< 8))

/-- The check over the bytes given, from 0xFFFF. -/
def crc (bytes : List Byte) : BitVec 16 := bytes.foldl crcByte 0xFFFF#16

/-- What the check covers: length, kind, tag and body. -/
def Frame.covered (f : Frame) : List Byte := byteOf f.body.length :: f.kind :: f.tag :: f.body

/-- The check bytes, low byte first. -/
def checkBytes (bytes : List Byte) : List Byte :=
  let c := crc bytes
  [c.setWidth 8, (c >>> 8).setWidth 8]

/-- The bytes of a frame on the line, Table 10-1. -/
def Frame.bytes (f : Frame) : List Byte := Config.startByte :: (f.covered ++ checkBytes f.covered)

/-! ## Replies, R172, R182 -/

def doneKind : Byte := 0xC0#8
def refusedKind : Byte := 0xC1#8
def reportKind : Byte := 0xC2#8

/-- The DONE reply to a request of kind `kind` and tag `tag`. -/
def doneFrame (kind tag : Byte) (result : List Byte) : Frame :=
  { kind := doneKind, tag := tag, body := kind :: result }

/-- The REFUSED reply. -/
def refusedFrame (kind tag : Byte) (c : RefusalCode) : Frame :=
  { kind := refusedKind, tag := tag, body := [kind, byteOf c.code] }

/-! ## Reports, R185 -/

/-- The further detail of a DEPARTURE NOTE, bytes 6 and 7. -/
def DepartureEvent.bytes : DepartureEvent → List Byte
  | .called m => le16 m
  | .deferred r => le8 r.code
  | .loaded => []
  | .stopped => []
  | .cut removed => le8 removed
  | .closed freed missing => le8 freed ++ le8 missing

/-- The further detail of a PALLET NOTE, bytes 4 to 7. -/
def PalletEvent.bytes : PalletEvent → List Byte
  | .held cause => le8 cause.code
  | .exception reason => le8 reason.code
  | .missing cause => le8 cause.code
  | .rerouted former pos tier cause => le8 former ++ le8 pos ++ le8 tier ++ le8 cause.code
  | .replaced fp ft p t => le8 fp ++ le8 ft ++ le8 p ++ le8 t

/-- The detail bytes that a note uses, Table 10-8. -/
def Note.detail : Note → List Byte
  | .departure e w k b => le16 w ++ le16 k ++ le16 b ++ e.bytes
  | .pallet label e => le32 label ++ e.bytes
  | .lane _ occupancy limit present incoming merged =>
    le8 occupancy ++ le8 limit ++ le8 present ++ le8 incoming ++ le8 merged
  | .plan kind cause withdrawal rejected =>
    le8 kind.code ++ le8 cause.code ++ flag8 withdrawal ++ le8 ((rejected.map (·.code)).getD 0)
  | .wave boundary length => le16 boundary ++ le8 length
  | .tip _ origin expected scanned => le8 origin ++ le8 expected ++ le16 scanned
  | .task mover level dep done total => le8 mover ++ le8 level ++ le8 dep ++ le8 done ++ le8 total

/-- Detail bytes that a kind does not use hold 0. -/
def padDetail (bytes : List Byte) : List Byte := (bytes ++ List.replicate 8 0#8).take 8

/-- The 16 bytes of a report record, Table 10-7. -/
def Report.bytes (r : Report) : List Byte :=
  le8 r.note.kindCode ++ le8 r.note.detailCode ++ le16 r.minute ++ le16 r.object ++ le16 r.droppedBefore ++
    padDetail r.note.detail

/-- A report's frame has kind REPORT and tag 0. -/
def Report.frame (r : Report) : Frame := { kind := reportKind, tag := 0#8, body := r.bytes }

end Sys2Proof.Machine
end

