-- ==== Sys2Proof/Machine/Ops.lean ====
section
/-! DEFINITION. The operations shared by the blocks: what a step sees of plan and clock (`Env`), the floor with the
reports queued so far in the step (`Yard`), access to each record, the lane table's counts and its watch, and the
dispatcher's pool and queues. -/

namespace Sys2Proof.Machine

/-- What the floor's blocks read of plan and clock. `mute` lists the departures for which departure control evaluates
no release and makes no LOADED test while an operation runs (R24, R45, R47; log 14). -/
structure Env where
  plan : ActivePlan
  minute : Nat
  isOpen : Bool
  mute : List Nat
deriving DecidableEq, Repr

/-- The floor and the reports that the step under way has queued, in order. -/
structure Yard extends Floor where
  notes : List Report
deriving DecidableEq, Repr

/-- The same with departure `d` muted. -/
def Env.muting (env : Env) (d : Nat) : Env := { env with mute := d :: env.mute }

/-! ## Reading the active plan -/

def Env.depEntry (env : Env) (d : Nat) : Option DepartureEntry := env.plan.departures.get d

/-- The profile that departure `d`'s active entry names, R1. -/
def Env.profileOf (env : Env) (d : Nat) : Option Profile :=
  (env.depEntry d).bind fun e => env.plan.profiles.get e.profile

/-- The role, gap and fault mode of a door that is not in plan, R117. -/
def DoorEntry.absent : DoorEntry := { role := .closed, gap := Config.defaultGap, mode := .latched }

def ActivePlan.doorEntry (p : ActivePlan) (n : Nat) : DoorEntry := Tab.at DoorEntry.absent p.doors n

/-- A lane's capacity, 0 while not in plan, R77. -/
def ActivePlan.capacity (p : ActivePlan) (l : Nat) : Nat := Tab.at 0 p.lanes l

/-- The role in which a departure entry names lane `l`, R78. -/
def DepartureEntry.roleOf (e : DepartureEntry) (l : Nat) : Option LaneRole :=
  if e.primary1 = l then some .drop1Primary
  else if e.secondary1 = some l then some .drop1Secondary
  else if e.primary2 = some l then some .drop2Primary
  else if e.secondary2 = some l then some .drop2Secondary
  else none

/-- The departure and role to which lane `l` is bound, R78: the active departure entry that names it (log 24). -/
def ActivePlan.binding (p : ActivePlan) (l : Nat) : Option (Nat × LaneRole) :=
  p.departures.cells.findSome? fun c => (c.2.roleOf l).map fun role => (c.1, role)

/-! ## Records of the floor -/

/-- What a dangling pallet reference reads as. No reachable state has one (R55). -/
def Pallet.blank : Pallet where
  label := 0
  consignment := none
  origin := 0
  dest := 0
  cls := .economy
  weight := 0
  height := 0
  allowance := 0
  state := .missing
  loc := none
  dep := none
  slot := none
  scanMinute := 0
  reason := none

def Floor.pallet (f : Floor) (ref : Nat) : Pallet := Tab.at Pallet.blank f.pallets ref

/-- The live record that carries a label, R55. -/
def Floor.refOf (f : Floor) (label : Nat) : Option Nat :=
  (f.pallets.cells.find? fun c => c.2.label == label).map (·.1)

def Floor.labelOf (f : Floor) (ref : Nat) : Nat := (f.pallet ref).label

def Floor.tip (f : Floor) (door : Nat) : Tip := Tab.at Tip.clear f.tips door

def Floor.deck (f : Floor) (d : Nat) : Deck := Tab.at (Deck.blank 0) f.decks d

def Floor.departure (f : Floor) (d : Nat) : Departure := Tab.at (Departure.fresh .closed) f.departures d

def Floor.door (f : Floor) (n : Nat) : Door := Tab.at Door.reset f.doors n

def Floor.lane (f : Floor) (l : Nat) : Lane := Tab.at Lane.reset f.lanes l

def Floor.mover (f : Floor) (m : Nat) : Mover := Tab.at Mover.reset f.movers m

def Floor.queue (f : Floor) (level : Nat) : List Nat := Tab.at [] f.queues level

def Yard.setPallet (y : Yard) (ref : Nat) (p : Pallet) : Yard := { y with pallets := y.pallets.put ref p }

def Yard.modPallet (y : Yard) (ref : Nat) (g : Pallet → Pallet) : Yard := { y with pallets := y.pallets.modify ref g }

def Yard.setTip (y : Yard) (door : Nat) (t : Tip) : Yard := { y with tips := y.tips.set Tip.clear door t }

def Yard.setDeck (y : Yard) (d : Nat) (k : Deck) : Yard := { y with decks := y.decks.put d k }

def Yard.modDep (y : Yard) (d : Nat) (g : Departure → Departure) : Yard :=
  { y with departures := y.departures.modify d g }

def Yard.setDoor (y : Yard) (n : Nat) (r : Door) : Yard := { y with doors := y.doors.set Door.reset n r }

def Yard.setLane (y : Yard) (l : Nat) (r : Lane) : Yard := { y with lanes := y.lanes.set Lane.reset l r }

def Yard.setMover (y : Yard) (m : Nat) (r : Mover) : Yard := { y with movers := y.movers.set Mover.reset m r }

def Yard.setQueue (y : Yard) (level : Nat) (q : List Nat) : Yard := { y with queues := y.queues.set [] level q }

def Yard.modTask (y : Yard) (id : Nat) (g : Task → Task) : Yard := { y with tasks := y.tasks.modify id g }

/-- A block queues a report, R174: it carries the night minute. -/
def Yard.note (y : Yard) (env : Env) (object : Nat) (n : Note) : Yard :=
  { y with notes := y.notes ++ [{ minute := env.minute, object := object, note := n, droppedBefore := 0 }] }

/-! ## The lane table (chapter 4) -/

/-- R77: present plus incoming. -/
def Lane.occupancy (r : Lane) : Nat := r.present.length + r.incoming

def Floor.occupancy (f : Floor) (l : Nat) : Nat := (f.lane l).occupancy

/-- A lane number, as against the pseudo-locations 0 and 1. -/
def isLane (n : Nat) : Bool := 2 ≤ n

/-- A place in lane `l` is reserved, R81. -/
def Yard.laneExpect (y : Yard) (l : Nat) : Yard :=
  y.setLane l { y.lane l with incoming := (y.lane l).incoming + 1 }

/-- A place reserved in lane `l` is given up, R81. -/
def Yard.laneUnexpect (y : Yard) (l : Nat) : Yard :=
  y.setLane l { y.lane l with incoming := (y.lane l).incoming - 1 }

/-- A pallet expected in lane `l` joins the tail of its present list, R80, R81. -/
def Yard.laneArrive (y : Yard) (l ref : Nat) : Yard :=
  y.setLane l { y.lane l with incoming := (y.lane l).incoming - 1, present := (y.lane l).present ++ [ref] }

/-- A pallet leaves the present list of lane `l`, R80. -/
def Yard.laneLeave (y : Yard) (l ref : Nat) : Yard :=
  y.setLane l { y.lane l with present := (y.lane l).present.filter (· ≠ ref) }

/-- A pallet leaves the present list of the lane at which `loc` stands, if it is one. -/
def Yard.leaveLoc (y : Yard) (loc : Option Loc) (ref : Nat) : Yard :=
  match loc with
  | some (.floor l) => if isLane l then y.laneLeave l ref else y
  | _ => y

/-- R87: a crossing creates a pending alert with its LANE ALERT, or merges into the pending one. -/
def Yard.crossing (y : Yard) (env : Env) (l : Nat) (kind : AlertKind) (limit : Nat) : Yard :=
  let r := y.lane l
  match r.alert with
  | some a => y.setLane l { r with alert := some { a with merged := satAdd Config.mergedMax a.merged 1 } }
  | none =>
    (y.setLane l { r with alert := some { kind := kind, minute := env.minute, merged := 0 } }).note env l
      (.lane kind r.occupancy limit r.present.length r.incoming 0)

/-- R86: the limit of lane `l` that a change of its occupancy from `b` to `a` crosses. -/
def Lane.crossed (r : Lane) (b a : Nat) : Option (AlertKind × Nat) :=
  match r.high with
  | some h =>
    if b < h ∧ h ≤ a then some (.high, h)
    else
      match r.low with
      | some lo => if lo < b ∧ a ≤ lo then some (.low, lo) else none
      | none => none
  | none =>
    match r.low with
    | some lo => if lo < b ∧ a ≤ lo then some (.low, lo) else none
    | none => none

/-- R86 for one lane: compares its occupancy before and after a request or event. -/
def Yard.watchLane (y : Yard) (env : Env) (before : Floor) (l : Nat) : Yard :=
  match (y.lane l).crossed (before.occupancy l) (y.occupancy l) with
  | some (kind, limit) => y.crossing env l kind limit
  | none => y

/-- R86 at the end of a request or event (log 20), lanes in ascending number. Only a listed lane has a limit. -/
def Yard.watch (y : Yard) (env : Env) (before : Floor) : Yard :=
  y.lanes.keys.foldl (fun z l => z.watchLane env before l) y

/-! ## The dispatcher's pool and queues (5.1) -/

/-- The pallets of a task not yet moved. -/
def Task.unmoved (t : Task) : List Nat := t.pallets.drop t.done

/-- The lifts of a task still to be done. -/
def Task.remaining (t : Task) : Nat := t.total - t.done

def Task.isIssued (t : Task) : Bool := t.mover.isSome

/-- LOAD and DIRECT tasks. -/
def Task.loads (t : Task) : Bool := t.kind == .load || t.kind == .direct

/-- A task as it is created, R93. -/
def newTask (kind : TaskKind) (level : Nat) (src dst : Loc) (pallets : List Nat) (total : Nat) (dep : Option Nat) : Task where
  kind := kind
  level := level
  src := src
  dst := dst
  pallets := pallets
  total := total
  done := 0
  mover := none
  lastMover := none
  issueMinute := none
  dep := dep
  mark := false

/-- R92: the pool holds 1024 tasks. -/
def Floor.poolFull (f : Floor) : Bool := Config.poolSize ≤ f.tasks.size

/-- After 65535 comes 1, R93. -/
def idAfter (id : Nat) : Nat := if Config.maxTaskId ≤ id then 1 else id + 1

/-- The first id from `id` on that no task holds, R93; `fuel` more than the pool's size always finds it. -/
def allocFrom (tasks : Tab Task) : Nat → Nat → Nat
  | 0, id => id
  | fuel + 1, id => if tasks.has id then allocFrom tasks fuel (idAfter id) else id

/-- The id that the next task will get, R93. -/
def Floor.allocId (f : Floor) : Nat := allocFrom f.tasks (f.tasks.size + 1) f.nextId

/-- A task joins the tail of the queue of `level`, R95. -/
def Yard.enqueue (y : Yard) (level id : Nat) : Yard := y.setQueue level (y.queue level ++ [id])

/-- A task leaves the queue of `level`, R95. -/
def Yard.dequeue (y : Yard) (level id : Nat) : Yard := y.setQueue level ((y.queue level).filter (· ≠ id))

/-- R93: creates a QUEUED task with the next free id at the tail of its level queue. -/
def Yard.addTask (y : Yard) (t : Task) : Yard :=
  let id := y.allocId
  { y with tasks := y.tasks.put id t, nextId := idAfter id }.enqueue t.level id

/-- R93 for an asker that can be told that the pool is full: the new task's id, or nothing. -/
def Yard.createTask (y : Yard) (t : Task) : Option (Nat × Yard) :=
  if y.poolFull then none else some (y.allocId, y.addTask t)

/-- R94: creates a single-pallet task, or puts it into the creation backlog when the pool is full (id 0). -/
def Yard.askTask (y : Yard) (kind : TaskKind) (level : Nat) (src dst : Loc) (ref : Nat) : Nat × Yard :=
  match y.createTask (newTask kind level src dst [ref] 1 none) with
  | some r => r
  | none =>
    (0, { y with backlog := y.backlog ++ [{ kind := kind, level := level, src := src, dst := dst, pallet := ref }] })

/-- The task that carries a pallet: it is on the list and not yet moved, R92. -/
def Floor.carrier (f : Floor) (ref : Nat) : Option (Nat × Task) :=
  f.tasks.cells.find? fun c => c.2.unmoved.contains ref

/-- The backlog entry that carries a pallet, R94. -/
def Floor.backlogOf (f : Floor) (ref : Nat) : Option BacklogEntry :=
  f.backlog.find? fun b => b.pallet == ref

/-- A backlog entry is dropped when its pallet leaves it, R94. -/
def Yard.dropBacklog (y : Yard) (ref : Nat) : Yard :=
  { y with backlog := y.backlog.filter fun b => b.pallet ≠ ref }

/-- R93: the oldest backlog entry becomes a task in the freed place. -/
def Yard.admitBacklog (y : Yard) : Yard :=
  match y.backlog with
  | [] => y
  | b :: rest =>
    if y.poolFull then y
    else { y with backlog := rest }.addTask (newTask b.kind b.level b.src b.dst [b.pallet] 1 none)

/-- A task and all that the dispatcher holds for it leaves pool, queue and issue order. -/
def Yard.takeTaskOut (y : Yard) (id : Nat) : Yard :=
  match y.tasks.get id with
  | none => y
  | some t => { y with tasks := y.tasks.erase id, issued := y.issued.filter (· ≠ id) }.dequeue t.level id

/-- R97: the current task is taken off its mover, which becomes `st` with it as its last task. -/
def Yard.freeMover (y : Yard) (id : Nat) (st : MoverState) : Yard :=
  match (y.tasks.get id).bind (·.mover) with
  | none => y
  | some m => y.setMover m { state := st, last := some id }

/-- R92: a pallet leaves a task's list before its lift is done. -/
def Task.without (t : Task) (ref : Nat) : Task :=
  { t with pallets := t.pallets.take t.done ++ (t.unmoved.filter (· ≠ ref)), total := t.total - 1 }

/-- A freed record leaves the moved part of a task's list, R55 (log 11). -/
def Task.forget (t : Task) (ref : Nat) : Task :=
  if (t.pallets.take t.done).contains ref then
    { t with pallets := (t.pallets.take t.done).filter (· ≠ ref) ++ t.unmoved, done := t.done - 1, total := t.total - 1 }
  else t

/-- The pallet table frees a record, R55, R59. -/
def Yard.freePallet (y : Yard) (ref : Nat) : Yard :=
  { y with
    pallets := y.pallets.erase ref
    tasks := ⟨y.tasks.cells.map fun c => (c.1, c.2.forget ref)⟩ }

/-! ## Location of a lift -/

/-- The lane that a task's to-location is, for a TIP task. -/
def Loc.lane? : Loc → Option Nat
  | .floor n => if isLane n then some n else none
  | .door _ => none
  | .trailer .. => none

/-- Location 0, the EXCEPTION BAY. -/
def Loc.exceptionBay : Loc := .floor 0

/-- Location 1, the NEXT-NIGHT HOLD. -/
def Loc.holdBay : Loc := .floor 1

/-- The level of a TIP task, R66. -/
def ServiceClass.tipLevel : ServiceClass → Nat
  | .timed => 4
  | .priority => 3
  | .standard => 2
  | .economy => 1

end Sys2Proof.Machine
end

