-- ==== Sys2Proof/Machine/Deck.lean ====
section
/-! DEFINITION. The deck planner (chapter 1): load arithmetic, the stack check and the trailer check, the placement
search, placements, and the changes of one entry. -/

namespace Sys2Proof.Machine

/-! ## Positions, levers and totals -/

/-- The row of a position, R2. -/
def rowOf (pos : Nat) : Nat := (pos + 1) / 2

/-- The lever of a row, R2. -/
def Profile.lever (pr : Profile) (row : Nat) : Nat := pr.levers.getD (row - 1) 0

/-- K: the moment divided by 1000, remainder dropped, R10. -/
def kingpinLoad (m : Nat) : Nat := m / 1000

/-- B: W minus K, R10. -/
def bogieLoad (w m : Nat) : Nat := w - kingpinLoad m

def Deck.k (d : Deck) : Nat := kingpinLoad d.m

def Deck.b (d : Deck) : Nat := bogieLoad d.w d.m

/-! ## Reading a deck map -/

/-- An entry with its position and tier. -/
structure Slot where
  pos : Nat
  tier : Nat
  entry : Entry
deriving DecidableEq, Repr

/-- The entries of one position from tier `t` on. -/
def tierSlots (pos : Nat) : Nat → List Entry → List Slot
  | _, [] => []
  | t, e :: rest => { pos := pos, tier := t, entry := e } :: tierSlots pos (t + 1) rest

/-- The entries of the positions from `pos` on. -/
def placeSlots : Nat → List (List Entry) → List Slot
  | _, [] => []
  | pos, stk :: rest => tierSlots pos 1 stk ++ placeSlots (pos + 1) rest

/-- A deck map in load order: ascending position, within a position ascending tier (00_scope 4.3). -/
def Deck.slots (d : Deck) : List Slot := placeSlots 1 d.places

def Deck.isEmpty (d : Deck) : Bool := d.places.all List.isEmpty

def Deck.stackAt (d : Deck) (pos : Nat) : List Entry := d.places.getD (pos - 1) []

/-- The head: the first entry in load order that is not LOADED, R9. -/
def Deck.head (d : Deck) : Option Slot := d.slots.find? fun s => s.entry.status != .loaded

/-- The closed line: the highest row that holds a RELEASED or LOADED entry, or 0, R9. -/
def Deck.closedLine (d : Deck) : Nat :=
  d.slots.foldl (fun line s => if s.entry.status = .planned then line else max line (rowOf s.pos)) 0

/-- How many entries have a load status, R26. -/
def Deck.countOf (d : Deck) (st : LoadStatus) : Nat := (d.slots.filter fun s => s.entry.status == st).length

/-- The slot of a pallet's entry in this map. -/
def Deck.slotOf (d : Deck) (ref : Nat) : Option Slot := d.slots.find? fun s => s.entry.ref == ref

/-- Every entry of a non-empty map is LOADED, R38. -/
def Deck.allLoaded (d : Deck) : Bool := !d.isEmpty && d.slots.all fun s => s.entry.status == .loaded

/-- Whether the departure has pallets on its deck, R143, R146, R148. -/
def Floor.deckInUse (f : Floor) (d : Nat) : Bool := !(f.deck d).isEmpty

/-! ## The two checks -/

/-- What the checks read of a pallet. -/
structure Load where
  weight : Nat
  height : Nat
  allowance : Nat
deriving DecidableEq, Repr

def Pallet.toLoad (p : Pallet) : Load := { weight := p.weight, height := p.height, allowance := p.allowance }

/-- Condition 3 of R11: every pallet bears those above it and the new weight. -/
def bearsAll (w : Nat) : List Load → Bool
  | [] => true
  | e :: above => decide ((above.map (·.weight)).sum + w ≤ e.allowance) && bearsAll w above

/-- The stack check for placing `n` on a stack given bottom to top, R11, and its form for an empty position, R12. -/
def stackCheck (pr : Profile) (stk : List Load) (n : Load) : Bool :=
  match stk with
  | [] => n.height ≤ pr.clearHeight
  | _ :: _ =>
    stk.length < pr.tiers && (stk.map (·.height)).sum + n.height ≤ pr.clearHeight && bearsAll n.weight stk

/-- The trailer check for adding weight `w` in row `row` to totals W and M, R13. -/
def trailerCheck (pr : Profile) (totalW totalM w row : Nat) : Bool :=
  let w' := totalW + w
  let m' := totalM + w * pr.lever row
  w' ≤ pr.payload && kingpinLoad m' ≤ pr.kingpin && bogieLoad w' m' ≤ pr.bogie

/-! ## The placement search -/

/-- First and last position of the region for a destination, R3. -/
def DepartureEntry.region (e : DepartureEntry) (rows dest : Nat) : Option (Nat × Nat) :=
  if dest = e.drop1 then some (2 * e.split + 1, 2 * rows)
  else if e.drop2 = some dest then some (1, 2 * e.split)
  else none

/-- Positions of the tail reserve: the `reserve` highest-numbered positions of the drop1 region, R4. -/
def DepartureEntry.inReserve (e : DepartureEntry) (rows pos : Nat) : Bool :=
  2 * e.split < pos && pos ≤ 2 * rows && 2 * rows < pos + e.reserve

/-- PLANNED and WAITING DOOR: the tail reserve is held back (R4) and a pallet needs a lane (R65, R66). -/
def DepState.beforeDoor : DepState → Bool
  | .planned | .waitingDoor => true
  | .loading | .loaded | .stopping | .stopped | .cut | .closed => false

/-- The states in which a search is carried out, R15. -/
def DepState.searchable : DepState → Bool
  | .planned | .waitingDoor | .loading | .loaded | .stopping | .stopped => true
  | .cut | .closed => false

/-- The candidate positions in ascending order, R16. -/
def candidates (e : DepartureEntry) (rows : Nat) (st : DepState) (dk : Deck) (lo hi : Nat) : List Nat :=
  (List.range' lo (hi + 1 - lo)).filter fun pos =>
    decide (dk.closedLine < rowOf pos) && !(st.beforeDoor && e.inReserve rows pos)

/-- PRIORITY and TIMED pallets are searched from the tail, R17. -/
def ServiceClass.fromTail : ServiceClass → Bool
  | .priority | .timed => true
  | .economy | .standard => false

/-- The class order of the candidate positions, R17. -/
def classOrder (c : ServiceClass) (ps : List Nat) : List Nat := if c.fromTail then ps.reverse else ps

/-- Both checks for a pallet at a position. -/
def Floor.fits (f : Floor) (pr : Profile) (dk : Deck) (p : Pallet) (pos : Nat) : Bool :=
  stackCheck pr ((dk.stackAt pos).map fun e => (f.pallet e.ref).toLoad) p.toLoad &&
    trailerCheck pr dk.w dk.m p.weight (rowOf pos)

/-- The two passes over ordered candidates, R17. -/
def twoPass (f : Floor) (pr : Profile) (dk : Deck) (p : Pallet) (order : List Nat) : Option Nat :=
  match order.find? fun pos => !(dk.stackAt pos).isEmpty && f.fits pr dk p pos with
  | some pos => some pos
  | none => order.find? fun pos => (dk.stackAt pos).isEmpty && f.fits pr dk p pos

/-- The position that a placement search chooses, R15 to R17. -/
def Floor.findPlace (f : Floor) (env : Env) (d ref : Nat) : Option Nat :=
  match env.depEntry d, env.profileOf d with
  | some e, some pr =>
    let st := (f.departure d).state
    let p := f.pallet ref
    if !st.searchable || p.slot.isSome then none
    else
      match e.region pr.rows p.dest with
      | none => none
      | some (lo, hi) =>
        twoPass f pr (f.deck d) p (classOrder p.cls (candidates e pr.rows st (f.deck d) lo hi))
  | _, _ => none

/-! ## Changing a deck map -/

/-- A new top entry at `pos` with its share of the totals, R18. -/
def Deck.push (dk : Deck) (pr : Profile) (pos : Nat) (e : Entry) (w : Nat) : Deck where
  places := dk.places.modify (pos - 1) (· ++ [e])
  w := dk.w + w
  m := dk.m + w * pr.lever (rowOf pos)
  used := if (dk.stackAt pos).isEmpty then dk.used + 1 else dk.used

/-- The map without a pallet's entry at `pos`, R19 steps 3 to 5. -/
def Deck.pull (dk : Deck) (pr : Profile) (pos ref w : Nat) : Deck :=
  let places := dk.places.modify (pos - 1) (·.filter fun e => e.ref ≠ ref)
  { places := places
    w := dk.w - w
    m := dk.m - w * pr.lever (rowOf pos)
    used := if (places.getD (pos - 1) []).isEmpty then dk.used - 1 else dk.used }

/-- The placement at `pos`, R18. A LOADED departure becomes LOADING again (R39). -/
def Yard.place (y : Yard) (env : Env) (d ref pos : Nat) : Yard :=
  match env.profileOf d with
  | none => y
  | some pr =>
    let dk := y.deck d
    let tier := (dk.stackAt pos).length + 1
    ((y.setDeck d (dk.push pr pos { ref := ref, status := .planned } (y.pallet ref).weight)).modPallet ref fun p =>
      { p with dep := some d, slot := some (pos, tier) }).modDep d fun r =>
        { r with state := if r.state = .loaded then .loading else r.state }

/-- A placement search that, where it finds a position, also makes the placement, R15 to R18. -/
def Yard.tryPlace (y : Yard) (env : Env) (d ref : Nat) : Option Yard :=
  (y.findPlace env d ref).map fun pos => y.place env d ref pos

/-- One entry with its status changed where it has the "from" status, Table 1-2. -/
def Entry.shift (e : Entry) (ref : Nat) (src dst : LoadStatus) : Entry :=
  if e.ref = ref ∧ e.status = src then { e with status := dst } else e

/-- R7: the load status of a pallet's entry changes from `src` to `dst`; any other entry stays. -/
def Deck.shift (dk : Deck) (ref : Nat) (src dst : LoadStatus) : Deck :=
  { dk with places := dk.places.map fun stk => stk.map fun e => e.shift ref src dst }

def Yard.shiftStatus (y : Yard) (d ref : Nat) (src dst : LoadStatus) : Yard :=
  y.setDeck d ((y.deck d).shift ref src dst)

/-- The load status of a pallet's entry in departure `d`'s map, R26. -/
def Floor.statusOf (f : Floor) (d ref : Nat) : Option LoadStatus := ((f.deck d).slotOf ref).map (·.entry.status)

/-- R19 steps 3 to 6 for one entry: it leaves its stack, the totals fall, and the record loses departure and slot. -/
def Yard.pullEntry (y : Yard) (env : Env) (d ref pos : Nat) : Yard :=
  match env.profileOf d with
  | none => y
  | some pr =>
    (y.setDeck d ((y.deck d).pull pr pos ref (y.pallet ref).weight)).modPallet ref fun p =>
      { p with dep := none, slot := none }

/-- R8: a RELEASED entry becomes LOADED and its pallet ON TRAILER at its position and tier. -/
def Yard.loadEntry (y : Yard) (d ref : Nat) : Yard :=
  match (y.deck d).slotOf ref with
  | some s =>
    if s.entry.status = .released then
      (y.shiftStatus d ref .released .loaded).modPallet ref fun p =>
        { p with state := .onTrailer, loc := some (.trailer d s.pos s.tier) }
    else y
  | none => y

end Sys2Proof.Machine
end

