-- ==== Sys2Proof/Machine/Release.lean ====
section
/-! DEFINITION. Release of load tasks by departure control (2.4), the LOADED test, the end of STOPPING, eligibility, and
what happens each time a task leaves the pool (R93). -/

namespace Sys2Proof.Machine

/-- A DEPARTURE NOTE with W, K and B as they stand, R53. -/
def Yard.depNote (y : Yard) (env : Env) (d : Nat) (e : DepartureEvent) : Yard :=
  y.note env d (.departure e (y.deck d).w (y.deck d).k (y.deck d).b)

/-- A pallet is present for its entry, R34. -/
def Floor.present (f : Floor) (ref : Nat) : Bool :=
  match (f.pallet ref).state, (f.pallet ref).loc with
  | .inLane, _ => true
  | .atDoor, some (.door _) => (f.carrier ref).isNone && (f.backlogOf ref).isNone
  | _, _ => false

/-- The level of a departure's new load tasks, R36. -/
def Departure.loadLevel (r : Departure) : Nat := if r.marginMark then 6 else 5

/-- The load task for an entry whose pallet is present: LOAD from its lane or DIRECT from its door, R34, R36. -/
def Floor.loadTask (f : Floor) (d : Nat) (s : Slot) : Option Task :=
  match (f.pallet s.entry.ref).loc with
  | some (.floor l) =>
    some (newTask .load (f.departure d).loadLevel (.floor l) (.trailer d s.pos s.tier) [s.entry.ref] 1 (some d))
  | some (.door n) =>
    some (newTask .direct (f.departure d).loadLevel (.door n) (.trailer d s.pos s.tier) [s.entry.ref] 1 (some d))
  | _ => none

/-- Releases one entry, R36; nothing when the pool is full. -/
def Yard.releaseEntry (y : Yard) (d : Nat) (s : Slot) : Option Yard :=
  match y.loadTask d s with
  | none => none
  | some t => (y.createTask t).map fun r => r.2.shiftStatus d s.entry.ref .planned .released

/-- The walk of R35 over the entries given in load order. -/
def releaseWalk (d batch : Nat) : List Slot → Yard → Yard
  | [], y => y
  | s :: rest, y =>
    match s.entry.status with
    | .loaded | .released => releaseWalk d batch rest y
    | .planned =>
      if y.present s.entry.ref && (y.deck d).countOf .released < batch then
        match y.releaseEntry d s with
        | some y' => releaseWalk d batch rest y'
        | none => y.modDep d fun r => { r with stalled := true }
      else y

/-- Release evaluation, R35: only for a LOADING departure whose hold flag is clear. -/
def Yard.release (y : Yard) (env : Env) (d : Nat) : Yard :=
  match env.depEntry d with
  | none => y
  | some e =>
    if (y.departure d).state = .loading ∧ (y.departure d).hold = false then
      releaseWalk d e.batch (y.deck d).slots y
    else y

/-- The LOADED test, R38. -/
def Yard.loadedTest (y : Yard) (env : Env) (d : Nat) : Yard :=
  if (y.departure d).state = .loading ∧ (y.deck d).allLoaded = true then
    (y.modDep d fun r => { r with state := .loaded }).depNote env d .loaded
  else y

/-- How many LOAD and DIRECT tasks of departure `d` are ISSUED, R45. -/
def Floor.issuedLoads (f : Floor) (d : Nat) : Nat :=
  (f.tasks.values.filter fun t => t.loads && t.dep == some d && t.isIssued).length

/-- How many LOAD and DIRECT tasks of departure `d` are QUEUED, R52. -/
def Floor.queuedLoads (f : Floor) (d : Nat) : Nat :=
  (f.tasks.values.filter fun t => t.loads && t.dep == some d && !t.isIssued).length

/-- The end of STOPPING: no load task of the departure is ISSUED any more, R45. -/
def Yard.stopTest (y : Yard) (env : Env) (d : Nat) : Yard :=
  if (y.departure d).state = .stopping ∧ y.issuedLoads d = 0 then
    (y.modDep d fun r => { r with state := .stopped }).depNote env d .stopped
  else y

/-- What departure control does on a notice for one departure, R37, R38, R45; nothing while it is muted. -/
def Yard.evaluate (y : Yard) (env : Env) (d : Nat) : Yard :=
  if env.mute.contains d then y else ((y.release env d).loadedTest env d).stopTest env d

/-- The LOADING departures with release stalled set, ascending, R36. -/
def Floor.stalledDeps (f : Floor) : List Nat :=
  (f.departures.cells.filter fun c => c.2.state == .loading && c.2.stalled).map (·.1)

/-- R36: a task has left the pool. Release stalled is cleared on those departures, and release is evaluated for each. -/
def Yard.wakeStalled (y : Yard) (env : Env) : Yard :=
  let ds := y.stalledDeps
  ds.foldl (fun z d => z.evaluate env d) (ds.foldl (fun z d => z.modDep d fun r => { r with stalled := false }) y)

/-- A task leaves the pool, R93: the oldest backlog entry takes the freed place, then departure control is told. -/
def Yard.leavePool (y : Yard) (env : Env) (id : Nat) : Yard :=
  if y.tasks.has id then ((y.takeTaskOut id).admitBacklog).wakeStalled env else y

/-! ## Eligibility (5.2) -/

/-- A door that door control reports FAULTED. -/
def Floor.faultedAt (f : Floor) (l : Loc) : Bool :=
  match l with
  | .door n => (f.door n).faulted
  | .floor _ => false
  | .trailer .. => false

/-- R96 condition 2: the from- or to-location is a FAULTED door; a departure stands for its door in the active plan. -/
def Floor.doorBlocks (f : Floor) (env : Env) (t : Task) : Bool :=
  f.faultedAt t.src ||
    (if t.loads then
      match (t.dep.bind env.depEntry) with
      | some e => (f.door e.door).faulted
      | none => false
    else f.faultedAt t.dst)

/-- R40: the entry stands above tier 1 on an entry that is not LOADED. -/
def Floor.tierBlocks (f : Floor) (t : Task) : Bool :=
  match t.dst with
  | .trailer d pos tier =>
    match ((f.deck d).stackAt pos).take (tier - 1) |>.getLast? with
    | some below => below.status != .loaded
    | none => false
  | .door _ => false
  | .floor _ => false

/-- The first condition of R96 that makes a QUEUED task ineligible, R115. -/
def Floor.ineligible (f : Floor) (env : Env) (t : Task) : Option Ineligible :=
  if f.dispatchHold then some .dispatchHold
  else if f.doorBlocks env t then some .doorFault
  else if t.loads && (t.dep.map fun d => (f.departure d).hold).getD false then some .departureHold
  else if t.loads && f.tierBlocks t then some .tier
  else none

end Sys2Proof.Machine
end

