-- ==== Sys2Proof/Machine/Routing.lean ====
section
/-! DEFINITION. Routing (3.4), re-routing and the hold (3.5), and the removal operation of the deck planner (1.7), which
hands to routing the lifted pallets that find no new place. -/

namespace Sys2Proof.Machine

/-- Where a pallet stands for routing, R66, R70, R71. -/
inductive Stand where
  | door (n : Nat)
  | holdBay
  | lane (l : Nat)
  /-- IN TRANSIT on an ISSUED TIP task to lane `l`. -/
  | carried (l : Nat)
deriving DecidableEq, Repr

/-- The standing of a pallet at a place. Only doors, lanes and location 1 occur for a pallet that is routed (R70). -/
def Loc.stand : Loc → Stand
  | .door n => .door n
  | .floor l => if isLane l then .lane l else .holdBay
  | .trailer .. => .holdBay

def Floor.standOf (f : Floor) (ref : Nat) : Stand :=
  let here := (((f.pallet ref).loc).map Loc.stand).getD .holdBay
  if (f.pallet ref).state = .inTransit then
    match f.carrier ref with
    | some (_, t) => if t.kind = .tip then ((t.dst.lane?).map Stand.carried).getD here else here
    | none => here
  else here

/-! ## Lane choice and candidates -/

/-- Primary and secondary lane of the drop that serves a destination, R84. -/
def DepartureEntry.dropLanes (e : DepartureEntry) (dest : Nat) : List Nat :=
  if dest = e.drop1 then e.primary1 :: e.secondary1.toList else e.primary2.toList ++ e.secondary2.toList

/-- The lane chosen: the first of the drop's lanes whose occupancy is below its capacity, R84. -/
def Floor.chooseLane (f : Floor) (env : Env) (e : DepartureEntry) (dest : Nat) : Option Nat :=
  (e.dropLanes dest).find? fun l => f.occupancy l < env.plan.capacity l

/-- The states in which a departure takes pallets from intake, R65. -/
def DepState.takesIntake : DepState → Bool
  | .planned | .waitingDoor | .loading | .loaded => true
  | .stopping | .stopped | .cut | .closed => false

/-- Whether the lane condition applies, R65 condition 4. -/
def laneNeeded (st : DepState) : Stand → Bool
  | .door _ => st.beforeDoor
  | .holdBay => true
  | .lane _ => false
  | .carried _ => false

/-- A departure of the route list is a candidate, R65; the lane chosen where one is needed. -/
def Floor.candidate (f : Floor) (env : Env) (stand : Stand) (d dest : Nat) : Option (Option Nat) :=
  match env.depEntry d with
  | none => none
  | some e =>
    let st := (f.departure d).state
    if st.takesIntake && (dest == e.drop1 || e.drop2 == some dest) then
      if laneNeeded st stand then
        match f.chooseLane env e dest with
        | some l => some (some l)
        | none => none
      else some none
    else none

/-- The departures that a pallet may try, R65: an ECONOMY pallet the first of the list only, and never `without`
(log 12). -/
def Env.routeFor (env : Env) (p : Pallet) (without : Option Nat) : List Nat :=
  let list := (env.plan.routes.get p.dest).getD []
  (if p.cls = .economy then list.take 1 else list).filter fun d => some d ≠ without

/-- Where routing has placed a pallet. -/
structure Routed where
  dep : Nat
  lane : Option Nat
  yard : Yard
deriving DecidableEq, Repr

/-- Offers a pallet to the departures given, one at a time; the first search that places it ends the routing, R65. -/
def Yard.routeOver (y : Yard) (env : Env) (stand : Stand) (ref : Nat) : List Nat → Option Routed
  | [] => none
  | d :: rest =>
    match y.candidate env stand d (y.pallet ref).dest with
    | none => y.routeOver env stand ref rest
    | some lane =>
      match y.tryPlace env d ref with
      | some y' => some { dep := d, lane := lane, yard := y' }
      | none => y.routeOver env stand ref rest

def Yard.route (y : Yard) (env : Env) (stand : Stand) (ref : Nat) (without : Option Nat) : Option Routed :=
  y.routeOver env stand ref (env.routeFor (y.pallet ref) without)

/-! ## Moves -/

/-- The location from which a pallet's TIP move starts. -/
def Stand.loc : Stand → Loc
  | .door n => .door n
  | .holdBay => .holdBay
  | .lane l => .floor l
  | .carried l => .floor l

/-- The move of R66 for one pallet: with a lane, a TIP task to it. -/
def Yard.giveMove (y : Yard) (stand : Stand) (ref : Nat) (lane : Option Nat) : Yard :=
  match lane with
  | none => y
  | some l =>
    (((y.modPallet ref fun p => { p with state := .atDoor }).laneExpect l).askTask .tip
      (y.pallet ref).cls.tipLevel stand.loc (.floor l) ref).2

/-- Binds a pallet that re-routing does not place to the hold, R71; the id of its RELOCATE task, or 0. -/
def Yard.bindHold (y : Yard) (ref : Nat) : Nat × Yard :=
  let held := y.modPallet ref fun p => { p with state := .held }
  match y.standOf ref with
  | .door n => held.askTask .relocate 1 (.door n) .holdBay ref
  | .lane l => held.askTask .relocate 1 (.floor l) .holdBay ref
  | .holdBay => (0, held)
  | .carried _ => (0, y)

/-- Takes a pallet off its task: the list loses it, and a task with no pallet left to move leaves the pool, R70. -/
def Yard.takeOffTask (y : Yard) (env : Env) (id ref : Nat) : Yard :=
  let y' := y.modTask id fun t => t.without ref
  match y'.tasks.get id with
  | some t => if t.unmoved.isEmpty then y'.leavePool env id else y'
  | none => y'

/-- The lane that a TIP move to `dst` reserved gives the place up, R81. -/
def Yard.unexpectAt (y : Yard) (dst : Loc) : Yard :=
  match dst.lane? with
  | some l => y.laneUnexpect l
  | none => y

/-- Takes a pallet off any QUEUED TIP task or TIP move of the backlog that carries it, R70, R94. -/
def Yard.takeOffTip (y : Yard) (env : Env) (ref : Nat) : Yard :=
  match y.carrier ref with
  | some (id, t) =>
    if t.kind = .tip ∧ t.isIssued = false then (y.unexpectAt t.dst).takeOffTask env id ref else y
  | none =>
    match y.backlogOf ref with
    | some b => if b.kind = .tip then (y.unexpectAt b.dst).dropBacklog ref else y
    | none => y

/-- R75: the pallet leaves the QUEUED RELOCATE task or backlog entry that carries it. -/
def Yard.takeOffRelocate (y : Yard) (env : Env) (ref : Nat) : Yard :=
  match y.carrier ref with
  | some (id, t) => if t.isIssued = false then y.takeOffTask env id ref else y
  | none => y.dropBacklog ref

/-! ## Re-routing -/

/-- Re-routing of a pallet removed from departure `former`, R70, R71, with its PALLET NOTE (R73). Gives the departure
that took it. -/
def Yard.reroute (y : Yard) (env : Env) (cause : NoteCause) (former ref : Nat) : Option Nat × Yard :=
  let y := y.takeOffTip env ref
  let stand := y.standOf ref
  match y.route env stand ref (some former) with
  | some r =>
    let z := r.yard.giveMove stand ref r.lane
    let p := z.pallet ref
    (some r.dep, z.note env r.dep
      (.pallet p.label (.rerouted former ((p.slot.map (·.1)).getD 0) ((p.slot.map (·.2)).getD 0) cause)))
  | none =>
    let z := (y.bindHold ref).2
    (none, z.note env former (.pallet (z.labelOf ref) (.held cause)))

/-! ## The removal operation -/

/-- R19 step 1: the QUEUED load or direct task of an entry leaves the pool. -/
def Yard.withdrawRelease (y : Yard) (env : Env) (ref : Nat) : Yard :=
  match y.carrier ref with
  | some (id, t) => if t.loads = true ∧ t.isIssued = false then y.leavePool env id else y
  | none => y

/-- R21: one entry above the removed one is lifted. -/
def Yard.liftEntry (y : Yard) (env : Env) (d pos ref : Nat) : Yard :=
  (y.withdrawRelease env ref).pullEntry env d ref pos

/-- R22, R23 for one lifted pallet, which held `pos` and `tier`: placed again on the same departure with its note, or
re-routed. Gives the departure that took it by re-routing. -/
def Yard.replaceOne (y : Yard) (env : Env) (cause : NoteCause) (d pos tier ref : Nat) : Option Nat × Yard :=
  match y.tryPlace env d ref with
  | some z =>
    let p := z.pallet ref
    (none, z.note env d (.pallet p.label
      (.replaced pos tier ((p.slot.map (·.1)).getD 0) ((p.slot.map (·.2)).getD 0))))
  | none => y.reroute env cause d ref

/-- R22: the lifted pallets in ascending order of former tier; the departures that took re-routed ones. -/
def replaceAll (env : Env) (cause : NoteCause) (d pos : Nat) : Nat → List Nat → Yard → List Nat × Yard
  | _, [], y => ([], y)
  | tier, ref :: rest, y =>
    let r := y.replaceOne env cause d pos tier ref
    let s := replaceAll env cause d pos (tier + 1) rest r.2
    (r.1.toList ++ s.1, s.2)

/-- The removal operation for a pallet's entry, R19 to R24: one notice for the departure concerned and one for each that
took a re-routed pallet follow at its end. Gives the number of pallets lifted. -/
def Yard.removeEntry (y : Yard) (env : Env) (cause : NoteCause) (ref : Nat) : Nat × Yard :=
  match (y.pallet ref).dep, (y.pallet ref).slot with
  | some d, some (pos, tier) =>
    let inside := env.muting d
    let above := (((y.deck d).stackAt pos).drop tier).map (·.ref)
    let out := (above.foldl (fun z r => z.liftEntry inside d pos r) (y.withdrawRelease inside ref)).pullEntry env d ref pos
    let r := replaceAll inside cause d pos (tier + 1) above out
    (above.length, r.1.foldl (fun z t => z.evaluate env t) (r.2.evaluate env d))
  | _, _ => (0, y)

/-- Re-routing outside a removal operation, R47 step 4, R42: DESIGN CHOICE, the departure that took the pallet is told after
this pallet (R18, R37), before the next one is offered, and not once at the cut-off's end (R24; log 32). -/
def Yard.rerouteTold (y : Yard) (env : Env) (cause : NoteCause) (former ref : Nat) : Option Nat × Yard :=
  let r := y.reroute env cause former ref
  match r.1 with
  | some d => (some d, r.2.evaluate env d)
  | none => r

/-- A pallet becomes MISSING, R58, R73: no location and no exception reason, with its PALLET NOTE. `former` is the
departure it was removed from, or 0. -/
def Yard.goMissing (y : Yard) (env : Env) (cause : NoteCause) (former ref : Nat) : Yard :=
  (y.modPallet ref fun p => { p with state := .missing, loc := none, dep := none, reason := none }).note env former
    (.pallet (y.labelOf ref) (.missing cause))

end Sys2Proof.Machine
end

