-- ==== Sys2Proof/Machine/Moves.lean ====
section
/-! DEFINITION. What issue, lift, return and expiry of a task do (chapter 5, R58): shared by the mover requests and the
expiry event. -/

namespace Sys2Proof.Machine

/-! ## Issue -/

/-- The state of a pallet whose task is issued, R58. -/
def TaskKind.issuedState : TaskKind → PalletState
  | .tip | .relocate | .posted => .inTransit
  | .load | .direct => .loading

/-- R101: issues the QUEUED task `id` to mover `m`. -/
def Yard.issueTask (y : Yard) (env : Env) (m id : Nat) : Yard :=
  match y.tasks.get id with
  | none => y
  | some t =>
    let z := (y.dequeue t.level id).modTask id fun t =>
      { t with mover := some m, lastMover := some m, issueMinute := some env.minute, mark := false }
    let z := { z with issued := z.issued ++ [id] }.setMover m { y.mover m with state := .busy id }
    t.unmoved.foldl (fun z ref => z.modPallet ref fun p => { p with state := t.kind.issuedState }) z

/-! ## Completion of a lift -/

/-- A pallet carried into a lane without departure and exception reason has lost its departure in transit, R58, R71. -/
def Floor.isLost (f : Floor) (ref : Nat) : Bool := (f.pallet ref).dep.isNone && (f.pallet ref).reason.isNone

/-- R58, R103: a TIP lift puts a pallet into lane `l`; one that has lost its departure is HELD with a RELOCATE task. -/
def Yard.tipLift (y : Yard) (env : Env) (l ref : Nat) : Yard :=
  let z := y.laneArrive l ref
  if y.isLost ref then
    ((z.modPallet ref fun p => { p with state := .held, loc := some (.floor l) }).askTask .relocate 1 (.floor l)
      .holdBay ref).2
  else
    let z := z.modPallet ref fun p => { p with state := .inLane, loc := some (.floor l) }
    match (y.pallet ref).dep with
    | some d => z.evaluate env d
    | none => z

/-- R8, R103: a LOAD or DIRECT lift puts a pallet onto departure `d`'s trailer. -/
def Yard.loadLift (y : Yard) (env : Env) (src : Loc) (d ref : Nat) : Yard :=
  ((y.leaveLoc (some src) ref).loadEntry d ref).evaluate env d

/-- R58, R103: a RELOCATE lift puts a pallet to location 0 or 1. -/
def Yard.relocateLift (y : Yard) (src dst : Loc) (ref : Nat) : Yard :=
  (y.leaveLoc (some src) ref).modPallet ref fun p =>
    { p with state := if dst = .holdBay then .held else .exception, loc := some dst }

/-- R103: the lift of one pallet of task `t`, numbered `id`, completes. -/
def Yard.liftDone (y : Yard) (env : Env) (id : Nat) (t : Task) (ref : Nat) : Yard :=
  let y := y.modTask id fun t => { t with done := t.done + 1 }
  match t.kind with
  | .tip =>
    match t.dst.lane? with
    | some l => y.tipLift env l ref
    | none => y
  | .load | .direct =>
    match t.dep with
    | some d => y.loadLift env t.src d ref
    | none => y
  | .relocate => y.relocateLift t.src t.dst ref
  | .posted => y

/-- R103: `n` lifts of task `t` are recorded, in list order; for a POSTED task only lifts done changes. -/
def Yard.recordLifts (y : Yard) (env : Env) (id : Nat) (t : Task) (n : Nat) : Yard :=
  if t.kind = .posted then y.modTask id fun t => { t with done := t.done + n }
  else (t.unmoved.take n).foldl (fun z ref => z.liftDone env id t ref) y

/-- Departure control is told that an issued load task has ended, R104, R106: a STOPPING departure judges its end (R45).
That nothing else follows is read from R37, which does not list this occasion (log 15, DEDUCED). -/
def Yard.toldEnded (y : Yard) (env : Env) (t : Task) : Yard :=
  match t.loads, t.dep with
  | true, some d => y.stopTest env d
  | _, _ => y

/-! ## Return to a queue -/

/-- The state a pallet not yet moved returns to, R58, Table 3-2. -/
def Task.restState (t : Task) (loc : Option Loc) : PalletState :=
  match t.kind with
  | .tip | .posted => .atDoor
  | .relocate => if t.dst = .holdBay then .held else .exception
  | .load | .direct =>
    match loc with
    | some (.floor _) => .inLane
    | _ => .atDoor

/-- R58: one pallet not yet moved of a returning task. One that has lost its departure leaves a TIP task and is bound to
the hold where it stands, without a PALLET NOTE. -/
def Yard.returnPallet (y : Yard) (env : Env) (id : Nat) (t : Task) (ref : Nat) : Yard :=
  let y' := y.modPallet ref fun p => { p with state := t.restState p.loc }
  if t.kind = .tip ∧ y.isLost ref = true then
    (((y'.unexpectAt t.dst).takeOffTask env id ref).bindHold ref).2
  else y'

/-- The level at which departure control leaves a returned task, R42: level 6 for a load task of a LOADING departure
inside its margin. -/
def Floor.returnLevel (f : Floor) (t : Task) (level : Nat) : Nat :=
  match t.dep with
  | some d =>
    if t.loads = true ∧ (f.departure d).state = .loading ∧ (f.departure d).marginMark = true ∧ level < 6 then 6 else level
  | none => level

/-- What departure control does on the return of a load task `id` of departure `d` that carries `ref`, R42. -/
def Yard.loadReturned (y : Yard) (env : Env) (id d ref : Nat) : Yard :=
  match y.tasks.get id with
  | none => y
  | some t =>
    match (y.departure d).state with
    | .loading =>
      let level := y.returnLevel t t.level
      if level = t.level then y
      else ((y.dequeue t.level id).modTask id fun t => { t with level := level }).enqueue level id
    | .stopping | .stopped => ((y.leavePool env id).shiftStatus d ref .released .planned).evaluate env d
    | .cut => (((y.leavePool env id).removeEntry env .cut ref).2.rerouteTold env .cut d ref).2
    | .planned | .waitingDoor | .loaded | .closed => y

/-- R111: a task returns to the tail of the queue of `level`, with its expired-once mark as its cause gives. DESIGN CHOICE:
its pallets not yet moved are settled (R58) in list order, so those that lost their departure get their RELOCATE tasks in
that order (log 35). -/
def Yard.returnTask (y : Yard) (env : Env) (id level : Nat) (mark : Bool) : Yard :=
  match y.tasks.get id with
  | none => y
  | some t =>
    let z := (y.dequeue t.level id).modTask id fun t => { t with level := level, mover := none, mark := mark }
    let z := { z with issued := z.issued.filter (· ≠ id) }.enqueue level id
    let z := t.unmoved.foldl (fun z ref => z.returnPallet env id t ref) z
    match t.loads, t.dep, t.unmoved with
    | true, some d, ref :: _ => z.loadReturned env id d ref
    | _, _, _ => z

/-- One level higher, saturating at 6; level 7 stays, R110. -/
def expiredLevel (level : Nat) : Nat := if 6 ≤ level then level else level + 1

/-- R110: one ISSUED task expires; its note gives level and total as they stand after the return (log 30). -/
def Yard.expireTask (y : Yard) (env : Env) (id : Nat) : Yard :=
  match y.tasks.get id with
  | none => y
  | some t =>
    let level := expiredLevel t.level
    let lost := if t.kind = .tip then (t.unmoved.filter fun ref => y.isLost ref).length else 0
    ((y.freeMover id .idle).returnTask env id level true).note env id
      (.task (t.mover.getD 0) (y.returnLevel t level) (t.dep.getD 0) t.done (t.total - lost))

/-- The ISSUED tasks whose time limit has run out, in the order in which they were issued, R110 (log 19). -/
def Floor.expired (f : Floor) (env : Env) : List Nat :=
  f.issued.filter fun id =>
    match (f.tasks.get id).bind (·.issueMinute) with
    | some m => m + env.plan.night.taskLimit ≤ env.minute
    | none => false

end Sys2Proof.Machine
end

