-- ==== Sys2Proof/Machine/DepartureOps.lean ====
section
/-! DEFINITION. Departure control and door control (chapters 2 and 6): calls and the claiming of doors, hand-over, ends of
changeovers and release of faults, cut-off, closing, and the timed events. -/

namespace Sys2Proof.Machine

/-! ## Doors -/

/-- Why a claim of door `n` is refused, tested in the order of R121; nothing when the door is claimed. -/
def Floor.claimRefused (f : Floor) (env : Env) (n : Nat) : Option DeferReason :=
  if (env.plan.doorEntry n).role ≠ .outbound then some .notOutbound
  else if (f.door n).faulted then some .faulted
  else
    match (f.door n).underlying with
    | .changeover _ => some .changeover
    | .occupied _ => some .occupied
    | .outboundFree => none
    | .closed | .inboundFree | .tipping => some .notOutbound

/-- Door `n` is made OCCUPIED by departure `d`, which becomes LOADING, R31, R33. -/
def Yard.takeDoor (y : Yard) (env : Env) (d n : Nat) : Yard :=
  let z := y.setDoor n { y.door n with underlying := .occupied d }
  let z := { z with waiting := z.waiting.filter (· ≠ d) }.modDep d fun r =>
    { r with state := .loading, doorTaken := true }
  (z.depNote env d (.called ((y.departure d).calledMinute.getD 0))).evaluate env d

/-- A call of departure `d`, R31: it takes its door or joins the waiting list. -/
def Yard.call (y : Yard) (env : Env) (d : Nat) : Yard :=
  match env.depEntry d with
  | none => y
  | some e =>
    let z := y.modDep d fun r => { r with callMark := true, calledMinute := some env.minute }
    match z.claimRefused env e.door with
    | none => z.takeDoor env d e.door
    | some reason =>
      ({ z with waiting := z.waiting ++ [d] }.modDep d fun r => { r with state := .waitingDoor }).depNote env d
        (.deferred reason)

/-- The first waiting departure whose active plan entry names door `n`, R33. -/
def Floor.firstWaiting (f : Floor) (env : Env) (n : Nat) : Option Nat :=
  f.waiting.find? fun d => (env.depEntry d).any fun e => e.door == n

/-- A door has become OUTBOUND-FREE: it goes to the earliest-called waiting departure that names it, R33. -/
def Yard.handOver (y : Yard) (env : Env) (n : Nat) : Yard :=
  match y.firstWaiting env n with
  | some d => y.takeDoor env d n
  | none => y

/-- The end of door `n`'s changeover, R123. -/
def Yard.endChangeover (y : Yard) (env : Env) (n : Nat) : Yard :=
  let z := y.setDoor n { y.door n with underlying := .outboundFree }
  if (y.door n).faulted then z else z.handOver env n

/-- Whether door `n`'s changeover end has come, R123. -/
def Floor.changeoverDue (f : Floor) (minute n : Nat) : Bool :=
  match (f.door n).underlying with
  | .changeover till => till ≤ minute
  | .closed | .inboundFree | .tipping | .outboundFree | .occupied _ => false

/-- The doors whose changeover end has come. -/
def Floor.doorsDue (f : Floor) (minute : Nat) : List Nat := f.doors.keys.filter fun n => f.changeoverDue minute n

/-- R127: door `n` is released from its fault. -/
def Yard.releaseDoor (y : Yard) (env : Env) (n : Nat) : Yard :=
  let z := y.setDoor n { y.door n with faulted := false }
  if (y.door n).underlying = .outboundFree ∧ env.isOpen = true then z.handOver env n else z

/-- R126: at a wave boundary every FAULTED door in WAVE mode with its condition clear is released, in ascending door
number (log 21). -/
def Yard.waveRelease (y : Yard) (env : Env) : Yard :=
  (y.doors.keys.filter fun n =>
    (y.door n).faulted && !(y.door n).condition && (env.plan.doorEntry n).mode == .wave).foldl
      (fun z n => z.releaseDoor env n) y

/-! ## Cut-off -/

/-- What a cut-off found: entries removed and pallets re-routed to another departure. -/
structure CutCount where
  removed : Nat
  rerouted : Nat
deriving DecidableEq, Repr

/-- The states to which cut-off processing is applied, R47. -/
def DepState.cuttable : DepState → Bool
  | .planned | .waitingDoor | .loading | .loaded | .stopping | .stopped => true
  | .cut | .closed => false

/-- The task that carries an entry's pallet is ISSUED. -/
def Floor.entryIssued (f : Floor) (ref : Nat) : Bool :=
  match f.carrier ref with
  | some (_, t) => t.loads && t.isIssued
  | none => false

/-- R47 step 2, in the order of step 3: the entries PLANNED, or RELEASED with their task not ISSUED, latest first. -/
def Floor.cutList (f : Floor) (d : Nat) : List Nat :=
  (((f.deck d).slots.filter fun s =>
    match s.entry.status with
    | .planned => true
    | .released => !f.entryIssued s.entry.ref
    | .loaded => false).map (·.entry.ref)).reverse

/-- R47 step 4: the removed pallets are re-routed one at a time; how many found a departure. -/
def rerouteAll (env : Env) (d : Nat) : List Nat → Yard → Nat × Yard
  | [], y => (0, y)
  | ref :: rest, y =>
    let r := y.rerouteTold env .cut d ref
    let s := rerouteAll env d rest r.2
    ((if r.1.isSome then 1 else 0) + s.1, s.2)

/-- Cut-off processing of departure `d`, R47. DESIGN CHOICE: a departure cut off before any call has its call mark set and
no called minute, since no call was made (R28; log 33). -/
def Yard.cutOff (y : Yard) (env : Env) (d : Nat) : CutCount × Yard :=
  let inside := env.muting d
  let z := { y with waiting := y.waiting.filter (· ≠ d) }.modDep d fun r =>
    { r with callMark := true, marginMark := true, cutMark := true, stalled := false }
  let refs := z.cutList d
  let z := refs.foldl (fun z ref => (z.removeEntry inside .cut ref).2) z
  let r := rerouteAll inside d refs z
  let z := r.2.modDep d fun q => { q with removedAtCut := refs.length, state := .cut }
  ({ removed := refs.length, rerouted := r.1 }, z.depNote env d (.cut refs.length))

/-! ## Closing -/

/-- What a closing found and freed, R50. -/
structure CloseCount where
  w : Nat
  k : Nat
  b : Nat
  freed : Nat
  missing : Nat
deriving DecidableEq, Repr

/-- R50 step 2 for one entry that is not LOADED: its task is withdrawn, its pallet becomes MISSING, the lane drops it and
the entry is removed (log 16). -/
def Yard.withdrawEntry (y : Yard) (env : Env) (d ref : Nat) : Yard :=
  let z :=
    match y.carrier ref with
    | some (id, t) => if t.loads then (y.freeMover id .idle).leavePool env id else y
    | none => y
  let z := z.leaveLoc (z.pallet ref).loc ref
  ((z.removeEntry env .depart ref).2).goMissing env .depart d ref

/-- The deck map is cleared, R25: the records of its LOADED pallets are freed and the map is emptied. -/
def Yard.clearDeck (y : Yard) (d : Nat) : Yard :=
  let dk := y.deck d
  let z := (dk.slots.map (·.entry.ref)).foldl (fun z ref => z.freePallet ref) y
  z.setDeck d (Deck.blank dk.places.length)

/-- R122: the door that a closed departure held goes into CHANGEOVER. -/
def Yard.giveUpDoor (y : Yard) (env : Env) (d : Nat) : Yard :=
  match env.depEntry d with
  | none => y
  | some e =>
    (y.setDoor e.door
      { y.door e.door with underlying := .changeover (env.minute + (env.plan.doorEntry e.door).gap) }).modDep d fun r =>
        { r with doorTaken := false }

/-- Closing of departure `d`, R50 steps 1 to 6, R51. -/
def Yard.close (y : Yard) (env : Env) (d : Nat) : CloseCount × Yard :=
  let z := if (y.departure d).state = .cut then y else (y.cutOff env d).2
  let missing := ((z.deck d).slots.filter fun s => s.entry.status != .loaded).map (·.entry.ref)
  let z := missing.foldl (fun z ref => z.withdrawEntry env d ref) z
  let dk := z.deck d
  let count : CloseCount := { w := dk.w, k := dk.k, b := dk.b, freed := dk.slots.length, missing := missing.length }
  let z := (z.clearDeck d).modDep d fun r =>
    { r with hold := false, stalled := false, departMinute := some env.minute, state := .closed }
  let z := if (z.departure d).doorTaken then z.giveUpDoor env d else z
  (count, z.note env d (.departure (.closed count.freed count.missing) count.w count.k count.b))

/-! ## Timed events (2.2) -/

inductive DepEvent where
  | call | margin | cut
deriving DecidableEq, Repr

/-- The minute of the late-margin event, 0 when the margin is not less than the cut minute (2.2, R142). -/
def Env.marginMinute (env : Env) (e : DepartureEntry) : Nat := e.cut - env.plan.night.lateMargin

/-- The due events of a departure with their minutes, R29: mark clear, night OPEN, minute come. -/
def Floor.dueEvents (f : Floor) (env : Env) (d : Nat) : List (Nat × DepEvent) :=
  match env.depEntry d with
  | none => []
  | some e =>
    let r := f.departure d
    ([(r.callMark, e.call, DepEvent.call), (r.marginMark, env.marginMinute e, DepEvent.margin),
      (r.cutMark, e.cut, DepEvent.cut)].filter fun x => !x.1 && x.2.1 ≤ env.minute && env.isOpen).map (·.2)

/-- The earliest; at one minute the call before the late margin before the cut, R29. -/
def earliest : List (Nat × DepEvent) → Option (Nat × DepEvent)
  | [] => none
  | x :: rest =>
    match earliest rest with
    | none => some x
    | some z => if z.1 < x.1 then some z else some x

/-- The event of departure `d` that is taken next, R29. -/
def Floor.nextDue (f : Floor) (env : Env) (d : Nat) : Option DepEvent := (earliest (f.dueEvents env d)).map (·.2)

/-- R41: the QUEUED level-5 tasks of departure `d` move to the tail of level 6, keeping their order. -/
def Yard.raiseQueued (y : Yard) (d : Nat) : Yard :=
  let ids := (y.queue 5).filter fun id => ((y.tasks.get id).bind (·.dep)) == some d
  ids.foldl (fun z id => ((z.dequeue 5 id).modTask id fun t => { t with level := 6 }).enqueue 6 id) y

/-- The late-margin event, R41. -/
def Yard.marginEvent (y : Yard) (d : Nat) : Yard :=
  (y.modDep d fun r => { r with marginMark := true }).raiseQueued d

/-- The call event, R31: a call for a PLANNED departure, otherwise only the mark. DESIGN CHOICE: no called minute is set
then, since no call is made (R28; log 33). -/
def Yard.callEvent (y : Yard) (env : Env) (d : Nat) : Yard :=
  if (y.departure d).state = .planned then y.call env d else y.modDep d fun r => { r with callMark := true }

/-- The cut event, R47; for a departure already CUT or CLOSED only the mark (R48). -/
def Yard.cutEvent (y : Yard) (env : Env) (d : Nat) : Yard :=
  if (y.departure d).state.cuttable then (y.cutOff env d).2 else y.modDep d fun r => { r with cutMark := true }

/-- Takes one event of departure `d`; each cut-off is one event for the watch, R86. -/
def Yard.takeEvent (y : Yard) (env : Env) (d : Nat) : DepEvent → Yard
  | .call => y.callEvent env d
  | .margin => y.marginEvent d
  | .cut => (y.cutEvent env d).watch env y.toFloor

/-- The due events of one departure, in order, R29: at most three, each sets its mark. -/
def Yard.takeDue (y : Yard) (env : Env) (d : Nat) : Nat → Yard
  | 0 => y
  | fuel + 1 =>
    match y.nextDue env d with
    | some ev => (y.takeEvent env d ev).takeDue env d fuel
    | none => y

/-- Departure control's examination for due events, departures in ascending number, R29. -/
def Yard.examine (y : Yard) (env : Env) : Yard :=
  env.plan.departures.keys.foldl (fun z d => z.takeDue env d 3) y

/-- The end-of-clock cut-off, R30. -/
def Yard.endCutOff (y : Yard) (env : Env) : Yard :=
  env.plan.departures.keys.foldl
    (fun z d => if (z.departure d).state.cuttable then ((z.cutOff env d).2).watch env z.toFloor else z) y

end Sys2Proof.Machine
end

