-- ==== Sys2Proof/Machine/PlanOps.lean ====
section
/-! DEFINITION. The plan store (chapter 7): pending entries, the tests and effects of one entry at an update point, and
the update point itself. `Run` is the part without its link and its queue, with the reports queued so far. -/

namespace Sys2Proof.Machine

/-- Clock, plan store, floor and reports during one step, and the model's own fields. -/
structure Run where
  clock : Clock
  plan : PlanStore
  yard : Yard
  work : Work
  draws : Nat
deriving DecidableEq, Repr

/-- What the floor reads of plan and clock as they stand. -/
def Run.env (r : Run) : Env :=
  { plan := r.plan.active, minute := r.clock.minute, isOpen := r.clock.isOpen, mute := [] }

/-- A change of the floor alone. -/
def Run.onYard (r : Run) (g : Env → Yard → Yard) : Run := { r with yard := g r.env r.yard }

/-! ## Pending entries -/

/-- One entry of the plan, as an update point takes it. -/
inductive PlanEntry where
  | night (e : NightEntry)
  | profile (n : Nat) (e : Profile)
  | door (n : Nat) (e : DoorEntry)
  | lane (n : Nat) (capacity : Nat)
  | departure (n : Nat) (w : DepartureWrite)
  | route (n : Nat) (list : List Nat)
deriving DecidableEq, Repr

def PlanEntry.kind : PlanEntry → PlanKind
  | .night _ => .night
  | .profile .. => .profile
  | .door .. => .door
  | .lane .. => .lane
  | .departure .. => .departure
  | .route .. => .route

/-- The object's number, 0 for the NIGHT object, R150. -/
def PlanEntry.number : PlanEntry → Nat
  | .night _ => 0
  | .profile n _ => n
  | .door n _ => n
  | .lane n _ => n
  | .departure n _ => n
  | .route n _ => n

def PlanEntry.isWithdrawal : PlanEntry → Bool
  | .departure _ .withdraw => true
  | .departure _ (.entry _) => false
  | .night _ | .profile .. | .door .. | .lane .. | .route .. => false

/-- The pending entries in the order of R141. -/
def Shadow.entries (s : Shadow) : List PlanEntry :=
  (s.night.toList.map PlanEntry.night) ++ (s.profiles.cells.map fun c => PlanEntry.profile c.1 c.2) ++
    (s.doors.cells.map fun c => PlanEntry.door c.1 c.2) ++ (s.lanes.cells.map fun c => PlanEntry.lane c.1 c.2) ++
    (s.departures.cells.map fun c => PlanEntry.departure c.1 c.2) ++
    (s.routes.cells.map fun c => PlanEntry.route c.1 c.2)

/-- The shadow-pending count, R131. -/
def Shadow.count (s : Shadow) : Nat := s.entries.length

/-- A written entry becomes the pending entry of its object, R131. -/
def Shadow.write (s : Shadow) : PlanEntry → Shadow
  | .night e => { s with night := some e }
  | .profile n e => { s with profiles := s.profiles.put n e }
  | .door n e => { s with doors := s.doors.put n e }
  | .lane n c => { s with lanes := s.lanes.put n c }
  | .departure n w => { s with departures := s.departures.put n w }
  | .route n l => { s with routes := s.routes.put n l }

/-- Whether a pending entry stands for the object of an entry, R131. -/
def Shadow.pendingFor (s : Shadow) : PlanEntry → Bool
  | .night _ => s.night.isSome
  | .profile n _ => s.profiles.has n
  | .door n _ => s.doors.has n
  | .lane n _ => s.lanes.has n
  | .departure n _ => s.departures.has n
  | .route n _ => s.routes.has n

/-! ## The tests of one entry, R142 to R149 -/

/-- The departures whose active entries name a profile. -/
def ActivePlan.usersOf (p : ActivePlan) (profile : Nat) : List (Nat × DepartureEntry) :=
  p.departures.cells.filter fun c => c.2.profile == profile

/-- R143: `e` differs from the profile's active entry where it is tested. -/
def rejectProfile (p : ActivePlan) (f : Floor) (n : Nat) (e : Profile) : Option RejectReason :=
  if (p.usersOf n).any fun c => f.deckInUse c.1 then some .profileInUse
  else if (p.usersOf n).any fun c => c.2.drop2.isSome && e.rows ≤ c.2.split then some .split
  else none

/-- A state in which a door's role may not change, R119, R144. -/
def Underlying.isBusy : Underlying → Bool
  | .tipping | .occupied _ | .changeover _ => true
  | .closed | .inboundFree | .outboundFree => false

/-- R144. -/
def rejectDoor (p : ActivePlan) (f : Floor) (n : Nat) (e : DoorEntry) : Option RejectReason :=
  if e.role ≠ (p.doorEntry n).role ∧ (f.door n).underlying.isBusy = true then some .doorBusy else none

/-- R145. -/
def rejectLane (f : Floor) (n capacity : Nat) : Option RejectReason :=
  if capacity < f.occupancy n then some .laneOccupancy else none

/-- The lanes a departure entry names, R135. -/
def DepartureEntry.lanes (e : DepartureEntry) : List Nat :=
  e.primary1 :: (e.secondary1.toList ++ e.primary2.toList ++ e.secondary2.toList)

/-- One item stands twice in a list. -/
def hasRepeat : List Nat → Bool
  | [] => false
  | x :: rest => rest.contains x || hasRepeat rest

/-- The fields a PLANNED departure with a non-empty deck map may change are the call minute, the cut minute and the
door, R146 ground 2. -/
def DepartureEntry.onlyTimesAndDoor (new old : DepartureEntry) : Bool :=
  { new with call := old.call, cut := old.cut, door := old.door } == old

/-- R146 grounds 3 to 7. -/
def rejectReferences (p : ActivePlan) (n : Nat) (e : DepartureEntry) : Option RejectReason :=
  if !p.profiles.has e.profile || !p.doors.has e.door || e.lanes.any fun l => !p.lanes.has l then
    some .missingReference
  else if e.cut ≤ e.call then some .times
  else if e.drop2.isSome && ((p.profiles.get e.profile).map (·.rows)).getD 0 ≤ e.split then some .split
  else if hasRepeat e.lanes then some .laneRoles
  else if e.lanes.any fun l => (p.binding l).any fun b => b.1 != n then some .inUse
  else none

/-- R146, for an entry that differs from the active one. -/
def rejectDeparture (p : ActivePlan) (isOpen : Bool) (f : Floor) (n : Nat) (e : DepartureEntry) : Option RejectReason :=
  match p.departures.get n with
  | none => rejectReferences p n e
  | some old =>
    if isOpen && (f.departure n).state != .planned then some .departureState
    else if (f.departure n).state == .planned && f.deckInUse n && !e.onlyTimesAndDoor old then some .deckFixed
    else rejectReferences p n e

/-- R148. -/
def rejectWithdrawal (p : ActivePlan) (f : Floor) (n : Nat) : Option RejectReason :=
  if !p.departures.has n then some .notPresent
  else
    match (f.departure n).state with
    | .closed => none
    | .planned => if f.deckInUse n then some .departureState else none
    | .waitingDoor | .loading | .loaded | .stopping | .stopped | .cut => some .departureState

/-- R149. -/
def rejectRoute (p : ActivePlan) (depot : Nat) (list : List Nat) : Option RejectReason :=
  if list.any fun d =>
    match p.departures.get d with
    | none => true
    | some e => !(e.drop1 == depot || e.drop2 == some depot)
  then some .routeService else none

/-- An entry whose fields all equal those of the object's active entry, R141. -/
def ActivePlan.repeats (p : ActivePlan) : PlanEntry → Bool
  | .night e => p.night == e
  | .profile n e => p.profiles.get n == some e
  | .door n e => p.doors.get n == some e
  | .lane n c => p.lanes.get n == some c
  | .departure n (.entry e) => p.departures.get n == some e
  | .departure _ .withdraw => false
  | .route n l => p.routes.get n == some l

/-- The first reason that applies to an entry, R141 to R149; an equal entry is not rejected (log 17). -/
def rejectEntry (p : ActivePlan) (isOpen : Bool) (f : Floor) (e : PlanEntry) : Option RejectReason :=
  if p.repeats e then none
  else
    match e with
    | .night _ => none
    | .profile n e => rejectProfile p f n e
    | .door n e => rejectDoor p f n e
    | .lane n c => rejectLane f n c
    | .departure n (.entry e) => rejectDeparture p isOpen f n e
    | .departure n .withdraw => rejectWithdrawal p f n
    | .route n l => rejectRoute p n l

/-! ## The effects of one entry -/

/-- The active copy with an applied entry, R141. -/
def ActivePlan.apply (p : ActivePlan) : PlanEntry → ActivePlan
  | .night e => { p with night := e }
  | .profile n e => { p with profiles := p.profiles.put n e }
  | .door n e => { p with doors := p.doors.put n e }
  | .lane n c => { p with lanes := p.lanes.put n c }
  | .departure n (.entry e) => { p with departures := p.departures.put n e }
  | .departure n .withdraw => { p with departures := p.departures.erase n }
  | .route n l => { p with routes := if l.isEmpty then p.routes.erase n else p.routes.put n l }

/-- The underlying state that a role gives at once, R119. -/
def DoorRole.underlying : DoorRole → Underlying
  | .closed => .closed
  | .inbound => .inboundFree
  | .outbound => .outboundFree

/-- The number of positions of departure `d`'s deck map, R2, R5. -/
def Env.positions (env : Env) (d : Nat) : Nat := 2 * ((env.profileOf d).map (·.rows)).getD 0

/-- The deck map of `d` is empty and sized by its profile, R143, R147. -/
def Yard.sizeDeck (y : Yard) (env : Env) (d : Nat) : Yard := y.setDeck d (Deck.blank (env.positions d))

/-- The floor's part of an applied entry: `old` is the active copy before it, `env` has it after. -/
def Yard.applyEntry (y : Yard) (old : ActivePlan) (env : Env) : PlanEntry → Yard
  | .night _ => y
  | .profile n _ => (env.plan.usersOf n).foldl (fun z c => z.sizeDeck env c.1) y
  | .door n e =>
    if e.role = (old.doorEntry n).role then y
    else
      let z := y.setDoor n { y.door n with underlying := e.role.underlying }
      if e.role = .outbound ∧ (y.door n).faulted = false then z.handOver env n else z
  | .lane n c =>
    y.setLane n { y.lane n with high := (y.lane n).high.map fun h => min h c }
  | .departure n (.entry e) =>
    match old.departures.get n with
    | none =>
      { y with departures := y.departures.put n (Departure.fresh (if env.isOpen then .planned else .closed)) }.sizeDeck
        env n
    | some o => if o.profile = e.profile then y else y.sizeDeck env n
  | .departure n .withdraw =>
    { y with departures := y.departures.erase n, decks := y.decks.erase n }
  | .route _ _ => y

/-- Takes one entry at an update point, R141: the test, the PLAN NOTE (R150), and when applied its effects. -/
def Run.takeEntry (r : Run) (cause : UpdateCause) (e : PlanEntry) : Run :=
  let reject := rejectEntry r.plan.active r.clock.isOpen r.yard.toFloor e
  let noted := r.yard.note r.env e.number (.plan e.kind cause e.isWithdrawal reject)
  if reject.isSome || r.plan.active.repeats e then { r with yard := noted }
  else
    let r' := { r with plan := { r.plan with active := r.plan.active.apply e } }
    { r' with yard := noted.applyEntry r.plan.active r'.env e }

/-! ## The update point -/

/-- How an update point ended: the entries taken, each with its rejection if any. -/
abbrev Outcomes := List (PlanEntry × Option RejectReason)

/-- Takes the entries one at a time, each tested against what the earlier ones left, 7.4. -/
def takeEntries (cause : UpdateCause) : List PlanEntry → Run → Outcomes × Run
  | [], r => ([], r)
  | e :: rest, r =>
    let reject := rejectEntry r.plan.active r.clock.isOpen r.yard.toFloor e
    let s := takeEntries cause rest (r.takeEntry cause e)
    ((e, reject) :: s.1, s.2)

def Outcomes.applied (o : Outcomes) : Nat := (o.filter fun x => x.2.isNone).length

def Outcomes.rejected (o : Outcomes) : Nat := (o.filter fun x => x.2.isSome).length

/-- A NIGHT or departure entry was applied, R141. -/
def Outcomes.movesEvents (o : Outcomes) : Bool :=
  o.any fun x => x.2.isNone && (x.1.kind == .night || x.1.kind == .departure)

/-- An update point, R138, R141: every pending entry leaves the shadow and is applied or rejected; then departure control
examines its departures when a NIGHT or departure entry was applied (R29). -/
def Run.updatePoint (r : Run) (cause : UpdateCause) : Outcomes × Run :=
  let s := takeEntries cause r.plan.shadow.entries { r with plan := { r.plan with shadow := .empty } }
  (s.1, if Outcomes.movesEvents s.1 then s.2.onYard fun env y => y.examine env else s.2)

end Sys2Proof.Machine
end

