-- ==== Sys2Proof/Machine/ClockOps.lean ====
section
/-! DEFINITION. The night clock (chapter 8): the minute tick and the work it hands to the blocks, wave boundaries, and the
completion of work that is still outstanding. The manual leaves the order of different blocks' work at one minute open
(08 8.2, R140): event commands take it in their own order, and `settle` takes what is left in a free order (log 3, 4). -/

namespace Sys2Proof.Machine

/-- The clock runs while the night is OPEN and end reached is clear, R153. -/
def Clock.runs (c : Clock) : Bool := c.isOpen && !c.endReached

/-! ## Wave boundaries -/

/-- The boundary minute that the clock takes, R155, R158: the greatest multiple of the wave length that lies after
`since`, after the last boundary minute, and at or before the night minute. -/
def Run.boundaryDue (r : Run) (since : Nat) : Option Nat :=
  let len := r.plan.active.night.waveLength
  let m := r.clock.minute / len * len
  if since < m ∧ r.clock.lastBoundary < m then some m else none

/-- A free choice of one of `n` things, log 4: drawn only where there is something to choose. -/
def Run.draw (r : Run) (n : Nat) : Nat × Run :=
  if n ≤ 1 then (0, r) else (Config.freeOrder r.draws % n, { r with draws := r.draws + 1 })

/-- A boundary's update point under the methods that make it one, R138. -/
def Run.boundaryUpdate (r : Run) : Run :=
  if r.plan.method.atBoundary then (r.updatePoint .boundary).2 else r

/-- A boundary's door release, R126. -/
def Run.boundaryRelease (r : Run) : Run := r.onYard fun env y => y.waveRelease env

/-- Some door is FAULTED with its condition clear, so that a boundary may release it, R126. -/
def Floor.faultedClear (f : Floor) : Bool := f.doors.values.any fun d => d.faulted && !d.condition

/-- R155: takes the boundary of minute `m`. Its update point and its door release come in either order (R140), which is
free where both have something to do. -/
def Run.takeBoundary (r : Run) (m : Nat) : Run :=
  let r := { r with clock := { r.clock with wave := r.clock.wave + 1, lastBoundary := m } }
  let r := r.onYard fun env y => y.note env r.clock.wave (.wave m r.plan.active.night.waveLength)
  if r.plan.method.atBoundary && r.plan.shadow.count != 0 && r.yard.faultedClear then
    let c := r.draw 2
    if c.1 = 0 then c.2.boundaryUpdate.boundaryRelease else c.2.boundaryRelease.boundaryUpdate
  else r.boundaryUpdate.boundaryRelease

/-- The clock's boundary test over the minutes after `since`. -/
def Run.testBoundary (r : Run) (since : Nat) : Run :=
  match r.boundaryDue since with
  | some m => r.takeBoundary m
  | none => r

/-! ## One block's work -/

/-- END_REACHED: end reached is set, the clock stops, and the end-of-clock cut-off is applied, R30, R156. -/
def Run.reachEnd (r : Run) : Run :=
  { r with clock := { r.clock with endReached := true, second := 0 } }.onYard fun env y => y.endCutOff env

/-- The expiry of one task, one event for the watch, R86, R110. -/
def Yard.expireWatched (y : Yard) (env : Env) (id : Nat) : Yard := (y.expireTask env id).watch env y.toFloor

/-- The ends of changeovers whose minute has come, in a free order (R123, log 4). -/
def Run.endChangeovers (r : Run) : Nat → Run
  | 0 => r
  | fuel + 1 =>
    match r.yard.doorsDue r.clock.minute with
    | [] => r
    | n :: rest =>
      let c := r.draw (n :: rest).length
      (c.2.onYard fun env y => y.endChangeover env ((n :: rest).getD c.1 n)).endChangeovers fuel

/-- A block's whole work, R154, R158. -/
def Run.doItem (r : Run) : WorkItem → Run
  | .departures => r.onYard fun env y => y.examine env
  | .expiry ids => r.onYard fun env y => ids.foldl (fun z id => z.expireWatched env id) y
  | .doors => r.endChangeovers r.yard.doors.size
  | .wave since => r.testBoundary since
  | .syncUpdate => (r.updatePoint .sync).2
  | .endOfClock => r.reachEnd

/-! ## Work outstanding -/

/-- The first departure with a due event, and that event, R29. -/
def Run.firstDue (r : Run) : Option (Nat × DepEvent) :=
  r.plan.active.departures.keys.findSome? fun d => (r.yard.nextDue r.env d).map fun ev => (d, ev)

/-- An item has something to do. The boundary test also waits for a CLOCK SYNC's update point, which may change the
wave length. -/
def Run.itemLive (r : Run) (all : List WorkItem) : WorkItem → Bool
  | .departures => r.firstDue.isSome
  | .expiry ids => !ids.isEmpty
  | .doors => !(r.yard.doorsDue r.clock.minute).isEmpty
  | .wave since => (r.boundaryDue since).isSome || all.contains .syncUpdate
  | .syncUpdate => r.plan.shadow.count != 0
  | .endOfClock => true

/-- The items that have something to do. -/
def Run.liveItems (r : Run) (items : List WorkItem) : List WorkItem := items.filter fun i => r.itemLive items i

/-- The items that may be taken next: the end of the clock waits for departure control's due events, R30, R158. -/
def takeable (items : List WorkItem) : List WorkItem :=
  if items.contains .departures then items.filter fun i => i != .endOfClock else items

/-- Takes the outstanding items whole, one after the other, in a free order (log 4). -/
def Run.settleItems (r : Run) : Nat → Run
  | 0 => { r with work := .clear }
  | fuel + 1 =>
    match takeable (r.liveItems r.work.waiting) with
    | [] => { r with work := .clear }
    | i :: rest =>
      let c := r.draw (i :: rest).length
      let pick := (i :: rest).getD c.1 i
      let done := c.2.doItem pick
      { done with work := { started := none, waiting := r.work.waiting.filter fun j => j != pick } }.settleItems fuel

/-- Completes all outstanding work, a block's begun work first (R154: each block's work is taken whole). -/
def Run.settle (r : Run) : Run :=
  let r' :=
    match r.work.started with
    | some i => { r.doItem i with work := { r.work with started := none } }
    | none => r
  r'.settleItems r'.work.waiting.length

/-- Hands a tick to the blocks, R154: the items that have something to do. -/
def Run.handTick (r : Run) (since : Nat) : Run :=
  let items : List WorkItem :=
    [.departures, .expiry (r.yard.expired r.env), .doors, .wave since] ++
      (if r.clock.minute = Config.lastMinute then [.endOfClock] else [])
  { r with work := { started := none, waiting := r.liveItems items } }

/-- A minute tick, R154, while the clock runs. -/
def Run.tick (r : Run) : Run :=
  let since := r.clock.minute
  { r with clock := { r.clock with minute := since + 1, second := 0 } }.handTick since

/-- One second of the time base, R153: the count returns to 0 with a minute tick when it would pass 59. -/
def Run.second (r : Run) : Run :=
  if r.clock.second < 59 then { r with clock := { r.clock with second := r.clock.second + 1 } } else r.tick

/-! ## Taking outstanding work event by event -/

/-- The part of outstanding work that an event command takes: the item it belongs to, and what is left of the item. -/
def Run.afterEvent (r : Run) (taken rest : WorkItem) : Run :=
  let waiting := r.work.waiting.filter fun j => j != taken
  { r with work := { started := if r.itemLive [] rest then some rest else none, waiting := waiting } }

/-- Work of an item may be taken now: it has begun, or nothing has begun and it is outstanding. -/
def Run.mayTake (r : Run) (i : WorkItem) : Bool :=
  match r.work.started with
  | some j => j == i
  | none => (takeable (r.liveItems r.work.waiting)).contains i

/-- The due event `ev` of departure `d`, if it is the next of departure control's examination, R29. -/
def Run.eventStep (r : Run) (d : Nat) (ev : DepEvent) : Run :=
  if r.mayTake .departures && r.firstDue == some (d, ev) then
    (r.onYard fun env y => y.takeEvent env d ev).afterEvent .departures .departures
  else r

/-- The outstanding list of expiring tasks. -/
def Work.expiring (w : Work) : List Nat :=
  match w.started with
  | some (.expiry ids) => ids
  | some _ => []
  | none => w.waiting.findSome? (fun | .expiry ids => some ids | _ => none) |>.getD []

/-- The expiry of task `id`, if it is the next to expire, R110. -/
def Run.expiryStep (r : Run) (id : Nat) : Run :=
  match r.work.expiring with
  | [] => r
  | first :: rest =>
    if first = id then
      (r.onYard fun env y => y.expireWatched env id).afterEvent (.expiry (first :: rest)) (.expiry rest)
    else r

/-- The end of door `n`'s changeover, if it has come, R123. -/
def Run.doorStep (r : Run) (n : Nat) : Run :=
  if r.mayTake .doors && r.yard.changeoverDue r.clock.minute n then
    (r.onYard fun env y => y.endChangeover env n).afterEvent .doors .doors
  else r

/-- The minute after which an outstanding boundary test looks for a boundary. -/
def Work.boundarySince (w : Work) : Option Nat := w.waiting.findSome? fun | .wave since => some since | _ => none

/-- The wave boundary handed with the tick, R155. -/
def Run.waveStep (r : Run) : Run :=
  match r.work.started, r.work.boundarySince with
  | none, some since => (r.testBoundary since).afterEvent (.wave since) (.expiry [])
  | _, _ => r

/-- The end of the clock handed with the tick to minute 1440, R156. -/
def Run.endStep (r : Run) : Run :=
  if r.mayTake .endOfClock then r.reachEnd.afterEvent .endOfClock (.expiry []) else r

end Sys2Proof.Machine
end

