-- ==== Sys2Proof/Machine/Requests.lean ====
section
/-! DEFINITION. The record link's shared operations (chapter 9): how reports join the queue, when request handling takes a
frame, how a reply is formed and handed over. -/

namespace Sys2Proof.Machine

/-! ## Reports, 9.6 -/

/-- A report joins the queue, R174, or meets the overrun mode, R175. -/
def Link.join (l : Link) (r : Report) : Link :=
  if l.reports.length < Config.reportQueueSize then { l with reports := l.reports ++ [r] }
  else
    { l with
      reports := if l.replaceMode then l.reports.drop 1 ++ [r] else l.reports
      droppedReports := satAdd Config.countMax l.droppedReports 1
      pendingDrops := satAdd Config.countMax l.pendingDrops 1 }

/-- The reports of a step join in the order queued. -/
def Link.joinAll (l : Link) (rs : List Report) : Link := rs.foldl Link.join l

/-! ## A step of the blocks -/

/-- The part without link and queue, with no report queued yet. -/
def State.toRun (s : State) : Run where
  clock := s.clock
  plan := s.plan
  yard := { toFloor := s.floor, notes := [] }
  work := s.work
  draws := s.draws

/-- The state after a step of the blocks: its reports have joined the queue. -/
def State.absorb (s : State) (r : Run) : State :=
  { s with
    clock := r.clock
    plan := r.plan
    floor := r.yard.toFloor
    work := r.work
    draws := r.draws
    link := s.link.joinAll r.yard.notes }

/-- A step of the blocks. -/
def State.onRun (s : State) (g : Run → Run) : State := s.absorb (g s.toRun)

/-- Work of the last tick that is outstanding is completed (log 3). -/
def State.settled (s : State) : State := if s.work = .clear then s else s.onRun Run.settle

/-! ## Requests, 9.4 -/

/-- The outcome of a request, R171: refused, which changes nothing, or taken, with the result of its reply. -/
inductive Answer (σ : Type) where
  | refused (c : RefusalCode)
  | done (result : List Byte) (after : σ)
deriving DecidableEq, Repr

/-- Request handling takes nothing while a reply still waits to be handed over or while the part is held in reset, R171,
R179. -/
def Link.busy (l : Link) : Bool := l.inHand.isSome || l.heldInReset

/-- The receiver hunts and the line is not awaited, so that a frame sent now arrives whole, R169. -/
def Link.listening (l : Link) : Bool := l.rx == .hunt && !l.waitMark

/-- The link with the frame `f` taken from it, if request handling can take `f` now, R170, R171: it is at the head of the
receive buffer; or nothing waits there and it arrives whole, to be taken at once (log 1). -/
def Link.accept (l : Link) (f : Frame) : Option Link :=
  if l.busy then none
  else
    match l.buffer with
    | g :: rest => if g = f then some { l with buffer := rest } else none
    | [] => if l.listening && bodyFits f.body then some l else none

/-- The reply is handed over when the reply slot is empty and stays in hand until it is, R171, R173 (log 25). -/
def Link.deliver (l : Link) (reply : Frame) : Link :=
  if l.slot.isNone then { l with slot := some reply } else { l with inHand := some reply }

/-- Handles a request whose frame has been taken, and hands over its reply, R171, R172. -/
def State.handle (s : State) (kind tag : Byte) (answer : State → Answer State) : State :=
  match answer s with
  | .refused c => { s with link := s.link.deliver (refusedFrame kind tag c) }
  | .done result after => { after with link := after.link.deliver (doneFrame kind tag result) }

/-- The state in which request handling has taken the frame `f`, if it can: work of the last tick is completed first. -/
def State.taken (s : State) (f : Frame) : Option State :=
  (s.link.accept f).map fun l => { s with link := l }.settled

/-- Request handling takes a request of kind `kind` and handles it whole, R171. Where it cannot take that frame now,
nothing happens (log 1). -/
def takeRequest (kind tag : Byte) (body : List Byte) (answer : State → Answer State) (s : State) : State :=
  match s.taken { kind := kind, tag := tag, body := body } with
  | some u => u.handle kind tag answer
  | none => s

/-- A request of a block other than the link. -/
def asRun (g : Run → Answer Run) (s : State) : Answer State :=
  match g s.toRun with
  | .refused c => .refused c
  | .done result r => .done result (s.absorb r)

/-- A request that plan and clock only inform. -/
def asYard (g : Env → Yard → Answer Yard) : State → Answer State :=
  asRun fun r =>
    match g r.env r.yard with
    | .refused c => .refused c
    | .done result y => .done result { r with yard := y }

/-- A request on one object: a body of one number, R181, in its range. -/
def numbered {σ : Type} (body : List Byte) (lo hi : Nat) (k : Nat → Answer σ) : Answer σ :=
  if body.length ≠ 1 then .refused .format
  else if u8 body 0 < lo ∨ hi < u8 body 0 then .refused .range
  else k (u8 body 0)

/-- A request that needs the night OPEN. -/
def needsNight {σ : Type} (env : Env) (k : Answer σ) : Answer σ := if env.isOpen then k else .refused .night

end Sys2Proof.Machine
end

