-- ==== Sys2Proof/Machine/DepartureRequests.lean ====
section
/-! DEFINITION. The requests of departure control: CALL_NOW (R32), CUT_NOW (R49), HOLD_LOAD (R43), FREE_LOAD (R44),
ABORT_LOAD (R45), RESUME_LOAD (R46), DEPART (R50) and GET_DEPARTURE (R52). -/

namespace Sys2Proof.Machine

/-- A request on one departure: FORMAT, RANGE, NIGHT (where the request needs an open night) and UNKNOWN, R32. -/
def onDeparture (body : List Byte) (night : Bool) (env : Env) (k : Nat → DepartureEntry → Answer Yard) : Answer Yard :=
  numbered body 1 48 fun d =>
    if night && !env.isOpen then .refused .night
    else
      match env.depEntry d with
      | none => .refused .unknown
      | some e => k d e

/-- W, K and B of a departure, 2 bytes each. -/
def Floor.totalsBytes (f : Floor) (d : Nat) : List Byte := le16 (f.deck d).w ++ le16 (f.deck d).k ++ le16 (f.deck d).b

/-- CALL NOW, R32. -/
def answerCallNow (body : List Byte) (env : Env) (y : Yard) : Answer Yard :=
  onDeparture body true env fun d _ =>
    if (y.departure d).state ≠ .planned then .refused .state
    else
      let z := y.call env d
      .done (le8 (z.departure d).state.code ++ minute16 (z.departure d).calledMinute) z

def execCallNow (tag : Byte) (body : List Byte) (s : State) : Host.Outcome State Fault Refusal :=
  .next (takeRequest 0x50#8 tag body (asYard (answerCallNow body)) s)

/-- CUT NOW, R49 (log 18). -/
def answerCutNow (body : List Byte) (env : Env) (y : Yard) : Answer Yard :=
  onDeparture body true env fun d _ =>
    if (y.departure d).state.cuttable = false then .refused .state
    else
      let r := y.cutOff env d
      .done (le8 r.1.removed ++ le8 r.1.rerouted ++ le8 (r.1.removed - r.1.rerouted) ++ r.2.totalsBytes d)
        (r.2.watch env y.toFloor)

def execCutNow (tag : Byte) (body : List Byte) (s : State) : Host.Outcome State Fault Refusal :=
  .next (takeRequest 0x51#8 tag body (asYard (answerCutNow body)) s)

/-- HOLD LOAD, R43. -/
def answerHoldLoad (body : List Byte) (env : Env) (y : Yard) : Answer Yard :=
  onDeparture body true env fun d _ =>
    if (y.departure d).state = .closed then .refused .state
    else .done (flag8 (y.departure d).hold) (y.modDep d fun r => { r with hold := true })

def execHoldLoad (tag : Byte) (body : List Byte) (s : State) : Host.Outcome State Fault Refusal :=
  .next (takeRequest 0x52#8 tag body (asYard (answerHoldLoad body)) s)

/-- FREE LOAD, R44. -/
def answerFreeLoad (body : List Byte) (env : Env) (y : Yard) : Answer Yard :=
  onDeparture body true env fun d _ =>
    if (y.departure d).state = .closed then .refused .state
    else
      let z := y.modDep d fun r => { r with hold := false }
      .done (flag8 (y.departure d).hold) (if (y.departure d).hold then z.evaluate env d else z)

def execFreeLoad (tag : Byte) (body : List Byte) (s : State) : Host.Outcome State Fault Refusal :=
  .next (takeRequest 0x53#8 tag body (asYard (answerFreeLoad body)) s)

/-- R45: one release is withdrawn; the task leaves the pool and the entry returns to PLANNED. -/
def Yard.withdrawOne (y : Yard) (env : Env) (d ref : Nat) : Yard :=
  (y.withdrawRelease env ref).shiftStatus d ref .released .planned

/-- The RELEASED entries whose task is not ISSUED, in load order, R45. -/
def Floor.unissued (f : Floor) (d : Nat) : List Nat :=
  ((f.deck d).slots.filter fun s => s.entry.status == .released && !f.entryIssued s.entry.ref).map (·.entry.ref)

/-- ABORT LOAD, R45. -/
def answerAbortLoad (body : List Byte) (env : Env) (y : Yard) : Answer Yard :=
  onDeparture body true env fun d _ =>
    if (y.departure d).state ≠ .loading ∧ (y.departure d).state ≠ .loaded then .refused .state
    else
      let refs := y.unissued d
      let z := refs.foldl (fun z ref => z.withdrawOne (env.muting d) d ref) (y.modDep d fun r => { r with stalled := false })
      let z := (z.modDep d fun r => { r with state := .stopping }).stopTest env d
      .done (le8 refs.length ++ le8 (z.departure d).state.code) z

def execAbortLoad (tag : Byte) (body : List Byte) (s : State) : Host.Outcome State Fault Refusal :=
  .next (takeRequest 0x54#8 tag body (asYard (answerAbortLoad body)) s)

/-- RESUME LOAD, R46. -/
def answerResumeLoad (body : List Byte) (env : Env) (y : Yard) : Answer Yard :=
  onDeparture body true env fun d _ =>
    if (y.departure d).state ≠ .stopped then .refused .state
    else
      let z := (y.modDep d fun r => { r with state := .loading }).evaluate env d
      .done (le8 (z.departure d).state.code ++
        le8 ((z.deck d).countOf .released - (y.deck d).countOf .released)) z

def execResumeLoad (tag : Byte) (body : List Byte) (s : State) : Host.Outcome State Fault Refusal :=
  .next (takeRequest 0x55#8 tag body (asYard (answerResumeLoad body)) s)

/-- R122: a changeover whose end has come already ends once the DEPART has been taken whole. -/
def Yard.endIfDue (y : Yard) (env : Env) (n : Nat) : Yard :=
  if y.changeoverDue env.minute n then y.endChangeover env n else y

/-- DEPART, R50. -/
def answerDepart (body : List Byte) (env : Env) (y : Yard) : Answer Yard :=
  onDeparture body true env fun d e =>
    match (y.departure d).state with
    | .planned | .waitingDoor | .closed => .refused .state
    | .loading | .loaded | .stopping | .stopped | .cut =>
      let r := y.close env d
      let z := r.2.watch env y.toFloor
      .done (le16 r.1.w ++ le16 r.1.k ++ le16 r.1.b ++ le8 r.1.freed ++ le8 r.1.missing ++
          le8 (z.departure d).removedAtCut)
        (if (y.departure d).doorTaken then z.endIfDue env e.door else z)

def execDepart (tag : Byte) (body : List Byte) (s : State) : Host.Outcome State Fault Refusal :=
  .next (takeRequest 0x56#8 tag body (asYard (answerDepart body)) s)

/-- The deck values of R26, as GET DEPARTURE carries them. -/
def Deck.valueBytes (dk : Deck) : List Byte :=
  le16 dk.w ++ le32 dk.m ++ le16 dk.k ++ le16 dk.b ++ le8 dk.used ++
    le8 (dk.countOf .planned) ++ le8 (dk.countOf .released) ++ le8 (dk.countOf .loaded) ++
    opt8 (dk.head.map (·.pos)) ++ opt8 (dk.head.map (·.tier)) ++ le8 dk.closedLine

/-- GET DEPARTURE, R52. -/
def answerGetDeparture (body : List Byte) (env : Env) (y : Yard) : Answer Yard :=
  onDeparture body false env fun d e =>
    let r := y.departure d
    .done (le8 r.state.code ++ flag8 r.callMark ++ flag8 r.marginMark ++ flag8 r.cutMark ++ flag8 r.doorTaken ++
      flag8 r.hold ++ flag8 r.stalled ++ minute16 r.calledMinute ++ minute16 r.departMinute ++
      le16 e.call ++ le16 e.cut ++ le8 e.door ++ le8 e.batch ++ le8 r.removedAtCut ++ (y.deck d).valueBytes ++
      le8 (y.queuedLoads d) ++ le8 (y.issuedLoads d) ++ le8 (placeIn d y.waiting)) y

def execGetDeparture (tag : Byte) (body : List Byte) (s : State) : Host.Outcome State Fault Refusal :=
  .next (takeRequest 0x57#8 tag body (asYard (answerGetDeparture body)) s)

end Sys2Proof.Machine
end

