-- ==== Sys2Proof/Machine/DoorRequests.lean ====
section
/-! DEFINITION. The requests of door control: DOOR_FAULT (R124), DOOR_CLEAR (R126), DOOR_RESUME (R127) and GET_DOOR
(R128). They are taken whether the night is OPEN or CLOSED, for every door. -/

namespace Sys2Proof.Machine

/-- DOOR FAULT, R124. -/
def answerDoorFault (body : List Byte) (env : Env) (y : Yard) : Answer Yard :=
  numbered body 1 32 fun n =>
    let r := y.door n
    .done (le8 r.underlying.code ++ flag8 r.condition)
      (y.setDoor n { r with faulted := true, condition := true, faultMinute := some env.minute })

def execDoorFault (tag : Byte) (body : List Byte) (s : State) : Host.Outcome State Fault Refusal :=
  .next (takeRequest 0x60#8 tag body (asYard (answerDoorFault body)) s)

/-- DOOR CLEAR, R126: for a FAULTED door the reply says what releases it, 0 otherwise. -/
def answerDoorClear (body : List Byte) (env : Env) (y : Yard) : Answer Yard :=
  numbered body 1 32 fun n =>
    let r := y.door n
    .done (flag8 r.condition ++ le8 (if r.faulted then (env.plan.doorEntry n).mode.releaseCode else 0))
      (y.setDoor n { r with condition := false })

def execDoorClear (tag : Byte) (body : List Byte) (s : State) : Host.Outcome State Fault Refusal :=
  .next (takeRequest 0x61#8 tag body (asYard (answerDoorClear body)) s)

/-- The departure to which a release has handed a door over: its holder, where it had none before, or 0. -/
def handedTo (was now : Underlying) : Nat :=
  match was, now with
  | .occupied _, _ => 0
  | _, .occupied d => d
  | _, _ => 0

/-- DOOR RESUME, R127. -/
def answerDoorResume (body : List Byte) (env : Env) (y : Yard) : Answer Yard :=
  numbered body 1 32 fun n =>
    if (y.door n).faulted = false ∨ (y.door n).condition = true then .refused .state
    else
      let z := y.releaseDoor env n
      .done (le8 (z.door n).stateCode ++ le8 (handedTo (y.door n).underlying (z.door n).underlying)) z

def execDoorResume (tag : Byte) (body : List Byte) (s : State) : Host.Outcome State Fault Refusal :=
  .next (takeRequest 0x62#8 tag body (asYard (answerDoorResume body)) s)

/-- The holder of a door, R117. -/
def Underlying.holder : Underlying → Option Nat
  | .occupied d => some d
  | .closed | .inboundFree | .tipping | .outboundFree | .changeover _ => none

/-- The changeover end of a door, R117. -/
def Underlying.changeoverEnd : Underlying → Option Nat
  | .changeover till => some till
  | .closed | .inboundFree | .tipping | .outboundFree | .occupied _ => none

/-- The door record, R128: the underlying state only of a FAULTED door. -/
def Door.bytes (r : Door) : List Byte :=
  le8 r.stateCode ++ le8 (if r.faulted then r.underlying.code else 0) ++ flag8 r.condition ++ minute16 r.faultMinute ++
    opt8 r.underlying.holder ++ minute16 r.underlying.changeoverEnd

/-- The tip record, R128. -/
def Tip.bytes (t : Tip) : List Byte := le8 t.origin ++ le16 t.expected ++ le16 t.scanned ++ le16 t.openMinute

/-- GET DOOR, R128. -/
def answerGetDoor (body : List Byte) (env : Env) (y : Yard) : Answer Yard :=
  numbered body 1 32 fun n =>
    let e := env.plan.doorEntry n
    .done (flag8 (env.plan.doors.has n) ++ le8 e.role.code ++ le8 e.gap ++ le8 e.mode.code ++ (y.door n).bytes ++
      (y.tip n).bytes ++ (y.waiting.filter fun d => (env.depEntry d).any fun e => e.door == n).flatMap le8) y

def execGetDoor (tag : Byte) (body : List Byte) (s : State) : Host.Outcome State Fault Refusal :=
  .next (takeRequest 0x63#8 tag body (asYard (answerGetDoor body)) s)

end Sys2Proof.Machine
end

