-- ==== Sys2Proof/Machine/Events.lean ====
section
/-! DEFINITION. The clock's and the blocks' internal events: TIME_BASE_SECOND (R153), MINUTE_TICK (R154), WAVE_BOUNDARY
(R155), END_REACHED (R156), CALL_EVENT (R31), LATE_MARGIN_EVENT (R41), CUT_EVENT (R47), TASK_EXPIRY (R110) and
CHANGEOVER_END (R123). An event that is not due, or whose turn has not come, has not happened and changes nothing
(log 3, 5). -/

namespace Sys2Proof.Machine

/-- A step of the time base: work of the last tick comes first, and it counts only while the clock runs, R153. -/
def State.timed (s : State) (g : Run → Run) : State :=
  let t := s.settled
  if t.clock.runs then t.onRun g else t

/-- TIME_BASE_SECOND, R153. -/
def execTimeBaseSecond (s : State) : Host.Outcome State Fault Refusal := .next (s.timed Run.second)

/-- MINUTE_TICK, R154 (log 6). -/
def execMinuteTick (s : State) : Host.Outcome State Fault Refusal := .next (s.timed Run.tick)

/-- WAVE_BOUNDARY, R155. -/
def execWaveBoundary (s : State) : Host.Outcome State Fault Refusal := .next (s.onRun Run.waveStep)

/-- END_REACHED, R156. -/
def execEndReached (s : State) : Host.Outcome State Fault Refusal := .next (s.onRun Run.endStep)

/-- CALL_EVENT, R31. -/
def execCallEvent (dep : Nat) (s : State) : Host.Outcome State Fault Refusal :=
  .next (s.onRun fun r => r.eventStep dep .call)

/-- LATE_MARGIN_EVENT, R41. -/
def execLateMarginEvent (dep : Nat) (s : State) : Host.Outcome State Fault Refusal :=
  .next (s.onRun fun r => r.eventStep dep .margin)

/-- CUT_EVENT, R47. -/
def execCutEvent (dep : Nat) (s : State) : Host.Outcome State Fault Refusal :=
  .next (s.onRun fun r => r.eventStep dep .cut)

/-- TASK_EXPIRY, R110. -/
def execTaskExpiry (id : Nat) (s : State) : Host.Outcome State Fault Refusal :=
  .next (s.onRun fun r => r.expiryStep id)

/-- CHANGEOVER_END, R123. -/
def execChangeoverEnd (door : Nat) (s : State) : Host.Outcome State Fault Refusal :=
  .next (s.onRun fun r => r.doorStep door)

end Sys2Proof.Machine
end

