-- ==== Sys2Proof/Machine/NightRequests.lean ====
section
/-! DEFINITION. The requests of the night clock: NIGHT_OPEN (R160, R161), NIGHT_CLOSE (R162, R163) and CLOCK_SYNC (R157 to
R159). -/

namespace Sys2Proof.Machine

/-! ## Opening the night -/

/-- R160 step 2: the clock of a new night. -/
def Clock.opened : Clock := { Clock.reset with isOpen := true }

/-- R160 step 3 for the doors, R129: the underlying state of the role, and a fault only while its condition is set. -/
def Door.readied (r : Door) (role : DoorRole) : Door :=
  { r with underlying := role.underlying, faulted := r.condition }

/-- R160 step 3: departures, doors, tips and movers are made ready. -/
def Yard.ready (y : Yard) (env : Env) : Yard :=
  let ds := env.plan.departures.keys
  let z := { y with
    departures := ⟨ds.map fun d => (d, Departure.fresh .planned)⟩
    waiting := []
    tips := .empty
    movers := .empty }
  let z := ds.foldl (fun z d => z.sizeDeck env d) z
  (List.range' 1 32).foldl (fun z n => z.setDoor n ((z.door n).readied (env.plan.doorEntry n).role)) z

/-- A reference in a list kept in ascending label order. -/
def insertByLabel (f : Floor) (ref : Nat) : List Nat → List Nat
  | [] => [ref]
  | r :: rest => if f.labelOf ref < f.labelOf r then ref :: r :: rest else r :: insertByLabel f ref rest

/-- The HELD records in ascending label order, R72. -/
def Floor.heldRefs (f : Floor) : List Nat :=
  ((f.pallets.cells.filter fun c => c.2.state == .held).map (·.1)).foldr (insertByLabel f) []

/-- What the carry-over came to, R160. -/
structure CarryCount where
  placed : Nat
  held : Nat
deriving DecidableEq, Repr

/-- R72 for one carried-over pallet at location 1; whether a departure has it. With the pool full, its placement is
undone and it stays HELD (log 27). -/
def Yard.carryOne (y : Yard) (env : Env) (ref : Nat) : Bool × Yard :=
  match y.route env .holdBay ref none with
  | none => (false, y)
  | some r =>
    if y.poolFull then (false, (r.yard.removeEntry env .carry ref).2)
    else
      let z := r.yard.giveMove .holdBay ref r.lane
      let p := z.pallet ref
      (true, z.note env r.dep
        (.pallet p.label (.rerouted 0 ((p.slot.map (·.1)).getD 0) ((p.slot.map (·.2)).getD 0) .carry)))

/-- R160 step 4: the carry-over, one pallet at a time. -/
def carryAll (env : Env) : List Nat → Yard → CarryCount × Yard
  | [], y => ({ placed := 0, held := 0 }, y)
  | ref :: rest, y =>
    let r := y.carryOne env ref
    let s := carryAll env rest r.2
    (if r.1 then { s.1 with placed := s.1.placed + 1 } else { s.1 with held := s.1.held + 1 }, s.2)

/-- NIGHT OPEN, R160. -/
def answerNightOpen (body : List Byte) (r : Run) : Answer Run :=
  if body.length ≠ 0 then .refused .format
  else if r.clock.isOpen then .refused .night
  else
    let u := r.updatePoint .nightOpen
    let r1 := { u.2 with clock := Clock.opened }
    let ready := r1.yard.ready r1.env
    let carried := carryAll r1.env ready.heldRefs ready
    let z := carried.2.watch r1.env ready.toFloor
    .done (le16 u.1.applied ++ le16 u.1.rejected ++ le8 r1.plan.active.departures.size ++
        le16 carried.1.placed ++ le16 carried.1.held ++ le16 (z.tasks.size - ready.tasks.size))
      { r1 with yard := z.examine r1.env }

def execNightOpen (tag : Byte) (body : List Byte) (s : State) : Host.Outcome State Fault Refusal :=
  .next (takeRequest 0x10#8 tag body (asRun (answerNightOpen body)) s)

/-! ## Closing the night -/

/-- A tip is closed at a door: the door is given up and the TIP NOTE of its counts is queued, R61. -/
def Yard.closeTip (y : Yard) (env : Env) (n : Nat) : Yard :=
  let t := y.tip n
  let z := y.setDoor n { y.door n with underlying := .inboundFree }
  if t.scanned < t.expected then z.note env n (.tip false t.origin t.expected t.scanned)
  else if t.expected < t.scanned then z.note env n (.tip true t.origin t.expected t.scanned)
  else z

/-- The doors TIPPING, faulted or not, ascending. -/
def Floor.tipping (f : Floor) : List Nat := f.doors.keys.filter fun n => (f.door n).underlying == .tipping

/-- R162 step 2: every departure that is not CLOSED is closed, ascending; how many, and the records freed. -/
def closeAll (env : Env) : List Nat → Yard → (Nat × Nat) × Yard
  | [], y => ((0, 0), y)
  | d :: rest, y =>
    if (y.departure d).state = .closed then closeAll env rest y
    else
      let r := y.close env d
      let s := closeAll env rest r.2
      ((s.1.1 + 1, s.1.2 + r.1.freed), s.2)

/-- R162 step 3, R129: every changeover ends, without a notice. -/
def Door.endedQuietly (r : Door) : Door :=
  match r.underlying with
  | .changeover _ => { r with underlying := .outboundFree }
  | .closed | .inboundFree | .tipping | .outboundFree | .occupied _ => r

/-- R163 step 4, R97, R116: a mover becomes OFF, a task that it held is its last task. -/
def Mover.sentOff (m : Mover) : Mover :=
  match m.state with
  | .busy id => { state := .off, last := some id }
  | .off | .idle => { state := .off, last := m.last }

/-- R163 step 5, R90: an emptied lane keeps its watch limits. -/
def Lane.emptied (r : Lane) : Lane := { Lane.reset with high := r.high, low := r.low }

/-- R163 steps 3 to 5 on the floor that closing has left. -/
def Yard.clearNight (y : Yard) : Yard :=
  let z := y.doors.keys.foldl (fun z n => z.setDoor n (z.door n).endedQuietly) y
  let z := z.movers.keys.foldl (fun z m => z.setMover m (z.mover m).sentOff) z
  let z := { z with tasks := .empty, queues := .empty, issued := [], backlog := [] }
  z.lanes.keys.foldl (fun z l => z.setLane l (z.lane l).emptied) z

/-- The records that NIGHT CLOSE frees, R59. -/
def Pallet.freedAtClose (p : Pallet) : Bool :=
  match p.state with
  | .exception | .missing => true
  | .inTransit => p.reason.isSome
  | .atDoor | .inLane | .loading | .onTrailer | .held => false

/-- A record carried over to the next night, R59. -/
def Pallet.carried (p : Pallet) : Pallet := { p with state := .held, loc := some .holdBay }

/-- R163 step 6. -/
def Floor.keptPallets (f : Floor) : List (Nat × Pallet) :=
  (f.pallets.cells.filter fun c => !c.2.freedAtClose).map fun c => (c.1, c.2.carried)

/-- NIGHT CLOSE, R162, R163: the watch is not tested (R86). -/
def answerNightClose (body : List Byte) (r : Run) : Answer Run :=
  if body.length ≠ 0 then .refused .format
  else if !r.clock.isOpen then .refused .night
  else
    let tips := r.yard.tipping
    let z := tips.foldl (fun z n => z.closeTip r.env n) r.yard
    let c := closeAll r.env r.plan.active.departures.keys z
    let cleared := c.2.clearNight
    let kept := cleared.keptPallets
    .done (le8 c.1.1 ++ le16 c.1.2 ++ le16 (cleared.pallets.size - kept.length) ++ le16 kept.length ++
        le16 c.2.tasks.size ++ le8 tips.length ++ le16 r.clock.minute)
      { r with
        yard := { cleared with pallets := ⟨kept⟩ }
        clock := { r.clock with isOpen := false } }

def execNightClose (tag : Byte) (body : List Byte) (s : State) : Host.Outcome State Fault Refusal :=
  .next (takeRequest 0x11#8 tag body (asRun (answerNightClose body)) s)

/-! ## Setting the clock -/

/-- The work that a forward step hands to the blocks, R158. -/
def Run.forwardItems (r : Run) (since : Nat) : List WorkItem :=
  [.departures, .expiry (r.yard.expired r.env), .doors, .wave since] ++
    (if r.clock.minute = Config.lastMinute then [.endOfClock] else [])

/-- The work of a step of 0 or backward, R159: only the expiry examination. -/
def Run.backwardItems (r : Run) : List WorkItem := [.expiry (r.yard.expired r.env)]

/-- R138: a CLOCK SYNC that is taken is an update point under SYNC and BOUNDARY-OR-SYNC. -/
def PlanStore.syncItems (p : PlanStore) : List WorkItem := if p.method.atSync then [.syncUpdate] else []

/-- CLOCK SYNC as taken, R157 to R159: the clock is set, and the blocks take its work in a free order (log 4). -/
def Run.sync (r : Run) (minute second : Nat) : Run :=
  let r1 := { r with clock := { r.clock with minute := minute, second := second } }
  let items := if r.clock.minute < minute then r1.forwardItems r.clock.minute else r1.backwardItems
  { r1 with work := { started := none, waiting := items ++ r1.plan.syncItems } }.settle

/-- The step of a CLOCK SYNC as its reply gives it, R157; the byte of a negative step is free (log 9). -/
def stepByte (before after : Nat) : Byte :=
  if before ≤ after then byteOf (after - before) else Config.backwardStepByte (before - after)

/-- The minutes between two minutes. -/
def distance (a b : Nat) : Nat := (a - b) + (b - a)

/-- CLOCK SYNC, R157. -/
def answerClockSync (body : List Byte) (r : Run) : Answer Run :=
  let minute := u16 body 0
  let second := u8 body 2
  if body.length ≠ 3 then .refused .format
  else if Config.lastMinute < minute ∨ 59 < second ∨ (minute = Config.lastMinute ∧ second ≠ 0) then .refused .range
  else if !r.clock.isOpen then .refused .night
  else if r.clock.endReached then .refused .state
  else if Config.maxSyncStep < distance minute r.clock.minute then .refused .range
  else
    let z := r.sync minute second
    let boundary := decide (r.clock.lastBoundary ≠ z.clock.lastBoundary)
    .done (le16 r.clock.minute ++ le8 r.clock.second ++ [stepByte r.clock.minute minute] ++ flag8 boundary ++
        le16 z.clock.wave ++ flag8 (r.plan.method.atSync || (boundary && r.plan.method.atBoundary)) ++
        flag8 z.clock.endReached) z

def execClockSync (tag : Byte) (body : List Byte) (s : State) : Host.Outcome State Fault Refusal :=
  .next (takeRequest 0x12#8 tag body (asRun (answerClockSync body)) s)

end Sys2Proof.Machine
end

