-- ==== Sys2Proof/Machine/Intake.lean ====
section
/-! DEFINITION. The requests of intake: TIP_OPEN (R60), TIP_CLOSE (R61), PALLET_IN (R62 to R69, R183), BUMP_PALLET (R74),
RELEASE_PALLET (R75) and GET_PALLET (R76). -/

namespace Sys2Proof.Machine

/-! ## Tips -/

/-- TIP OPEN, R60, R120. -/
def answerTipOpen (body : List Byte) (env : Env) (y : Yard) : Answer Yard :=
  let n := u8 body 0
  let origin := u8 body 1
  let expected := min Config.maxExpected (u16 body 2)
  if body.length ≠ 4 then .refused .format
  else if n < 1 ∨ 32 < n ∨ origin < 1 ∨ 254 < origin then .refused .range
  else if env.isOpen = false then .refused .night
  else if (y.door n).underlying ≠ .inboundFree ∨ (y.door n).faulted = true then .refused .state
  else
    .done (le16 expected)
      ((y.setDoor n { y.door n with underlying := .tipping }).setTip n
        { origin := origin, expected := expected, scanned := 0, openMinute := env.minute })

def execTipOpen (tag : Byte) (body : List Byte) (s : State) : Host.Outcome State Fault Refusal :=
  .next (takeRequest 0x30#8 tag body (asYard (answerTipOpen body)) s)

/-- TIP CLOSE, R61. -/
def answerTipClose (body : List Byte) (env : Env) (y : Yard) : Answer Yard :=
  numbered body 1 32 fun n =>
    needsNight env <|
      if (y.door n).underlying ≠ .tipping then .refused .state
      else
        .done (le8 (y.tip n).origin ++ le16 (y.tip n).expected ++ le16 (y.tip n).scanned) (y.closeTip env n)

def execTipClose (tag : Byte) (body : List Byte) (s : State) : Host.Outcome State Fault Refusal :=
  .next (takeRequest 0x32#8 tag body (asYard (answerTipClose body)) s)

/-! ## The scan, 3.3 -/

/-- One PALLET IN, R62. -/
structure Scan where
  door : Nat
  pieces : Nat
  first : Nat
  dest : Nat
  cls : ServiceClass
  damaged : Bool
  weight : Nat
  height : Nat
  allowance : Nat
deriving DecidableEq, Repr

/-- Reads the body of Table 10-4; nothing where a check of R62 step 2 fails. -/
def readScan (body : List Byte) : Option Scan :=
  match ServiceClass.ofCode (u8 body 7), flagOfCode (u8 body 8) with
  | some cls, some damaged =>
    let n := u8 body 1
    let first := u32 body 2
    if 1 ≤ u8 body 0 ∧ u8 body 0 ≤ 32 ∧ 1 ≤ n ∧ n ≤ 16 ∧ first ≠ 0 ∧ first + n - 1 ≤ Config.maxLabel then
      some
        { door := u8 body 0
          pieces := n
          first := first
          dest := u8 body 6
          cls := cls
          damaged := damaged
          weight := u16 body 10
          height := u16 body 12
          allowance := min Config.maxAllowance (u16 body 14) }
    else none
  | _, _ => none

/-- The labels of the pieces, in ascending order. -/
def Scan.labels (sc : Scan) : List Nat := List.range' sc.first sc.pieces

/-- The record of a piece as the scan writes it, R62; a revival keeps its consignment, R63. -/
def Scan.record (sc : Scan) (env : Env) (y : Yard) (label : Nat) (consignment : Option Nat) : Pallet where
  label := label
  consignment := consignment
  origin := (y.tip sc.door).origin
  dest := sc.dest
  cls := sc.cls
  weight := sc.weight
  height := sc.height
  allowance := sc.allowance
  state := .atDoor
  loc := some (.door sc.door)
  dep := none
  slot := none
  scanMinute := env.minute
  reason := none

/-- Validation, R64: the first check that fails. -/
def Scan.failure (sc : Scan) (env : Env) (p : Pallet) : Option ExceptionReason :=
  if sc.damaged then some .damaged
  else if sc.weight = 0 ∨ 1500 < sc.weight then some .weight
  else if sc.height < 10 ∨ 300 < sc.height then some .height
  else if sc.dest = 0 ∨ sc.dest = 255 ∨ ((env.plan.routes.get sc.dest).getD []).isEmpty = true then some .depot
  else if (env.routeFor p none).all fun d => (env.depEntry d).isNone then some .noRoute
  else none

/-- What a scan decides for one piece, R69. -/
inductive Fate where
  | lane (dep lane : Nat)
  | door (dep : Nat)
  | held
  | exception (reason : ExceptionReason)
deriving DecidableEq, Repr

/-- The move that a piece shares with others of its request, R68. -/
inductive MoveKey where
  | tip (lane : Nat)
  | hold
  | exceptionBay
deriving DecidableEq, Repr

def Fate.move : Fate → Option MoveKey
  | .lane _ l => some (.tip l)
  | .door _ => none
  | .held => some .hold
  | .exception _ => some .exceptionBay

/-- The departure that took a piece. -/
def Fate.dep : Fate → Option Nat
  | .lane d _ => some d
  | .door d => some d
  | .held => none
  | .exception _ => none

/-- Validates and routes one piece whose record stands at the door, R64 to R67; its task is not created yet. -/
def Yard.placePiece (y : Yard) (env : Env) (sc : Scan) (ref : Nat) : Fate × Yard :=
  match sc.failure env (y.pallet ref) with
  | some reason => (.exception reason, y.modPallet ref fun p => { p with state := .exception, reason := some reason })
  | none =>
    match y.route env (.door sc.door) ref none with
    | none => (.held, y.modPallet ref fun p => { p with state := .held })
    | some r =>
      match r.lane with
      | some l => (.lane r.dep l, r.yard.laneExpect l)
      | none => (.door r.dep, r.yard)

/-- The pieces one at a time, in label order, R68. -/
def placePieces (env : Env) (sc : Scan) : List Nat → Yard → List (Nat × Fate) × Yard
  | [], y => ([], y)
  | ref :: rest, y =>
    let r := y.placePiece env sc ref
    let s := placePieces env sc rest r.2
    ((ref, r.1) :: s.1, s.2)

/-- Adds a piece to the group of its move, groups standing in order of their lowest label, R68. -/
def addToGroup (k : MoveKey) (ref : Nat) : List (MoveKey × List Nat) → List (MoveKey × List Nat)
  | [] => [(k, [ref])]
  | (j, refs) :: rest => if j = k then (j, refs ++ [ref]) :: rest else (j, refs) :: addToGroup k ref rest

/-- The groups of a request's pieces. -/
def groupMoves (fates : List (Nat × Fate)) : List (MoveKey × List Nat) :=
  fates.foldl (fun gs x => match x.2.move with | some k => addToGroup k x.1 gs | none => gs) []

/-- The task of one group, R64, R66, R67, R68. -/
def Scan.task (sc : Scan) (k : MoveKey) (refs : List Nat) : Task :=
  match k with
  | .tip l => newTask .tip sc.cls.tipLevel (.door sc.door) (.floor l) refs refs.length none
  | .hold => newTask .relocate 0 (.door sc.door) .holdBay refs refs.length none
  | .exceptionBay => newTask .relocate 0 (.door sc.door) .exceptionBay refs refs.length none

/-- Creates the tasks of the groups, with their ids. -/
def createGroups (sc : Scan) : List (MoveKey × List Nat) → Yard → List (MoveKey × Nat) × Yard
  | [], y => ([], y)
  | (k, refs) :: rest, y =>
    let s := createGroups sc rest (y.addTask (sc.task k refs))
    ((k, y.allocId) :: s.1, s.2)

/-- The id of a group's task. -/
def idOf (ids : List (MoveKey × Nat)) (k : MoveKey) : Nat := ((ids.find? fun x => x.1 == k).map (·.2)).getD 0

/-- Position and tier of a pallet, 2 bytes. -/
def slotBytes (slot : Option (Nat × Nat)) : List Byte := opt8 (slot.map (·.1)) ++ opt8 (slot.map (·.2))

/-- One piece outcome, Table 10-5. -/
def Floor.outcomeBytes (f : Floor) (ids : List (MoveKey × Nat)) (x : Nat × Fate) : List Byte :=
  let p := f.pallet x.1
  le32 p.label ++
    match x.2 with
    | .lane d l => le8 1 ++ le8 d ++ slotBytes p.slot ++ le8 l ++ le8 0 ++ le16 (idOf ids (.tip l))
    | .door d => le8 2 ++ le8 d ++ slotBytes p.slot ++ le8 0 ++ le8 0 ++ le16 0
    | .held => le8 3 ++ le8 0 ++ slotBytes none ++ le8 0 ++ le8 0 ++ le16 (idOf ids .hold)
    | .exception reason => le8 4 ++ le8 0 ++ slotBytes none ++ le8 0 ++ le8 reason.code ++ le16 (idOf ids .exceptionBay)

/-- The scanned count of a door's tip rises, saturating, R60. -/
def Yard.countScans (y : Yard) (door k : Nat) : Yard :=
  y.setTip door { y.tip door with scanned := satAdd Config.countMax (y.tip door).scanned k }

/-- R62 step 6, R64 to R69: `y` holds the records of the pieces `refs`, `before` is the floor at the request's start. The
releases that the placements call for are evaluated once the tasks stand (log 13). -/
def Yard.takeScan (y : Yard) (env : Env) (sc : Scan) (flag : Nat) (refs : List Nat) (before : Floor) : Answer Yard :=
  let r := placePieces env sc refs y
  let groups := groupMoves r.1
  if Config.poolSize < y.tasks.size + groups.length then .refused .full
  else
    let c := createGroups sc groups r.2
    let z := (r.1.filterMap fun x => x.2.dep).foldl (fun z d => z.evaluate env d) (c.2.countScans sc.door refs.length)
    .done (le8 flag ++ le8 r.1.length ++ r.1.flatMap (z.outcomeBytes c.1)) (z.watch env before)

/-- New records for the labels given, each in the lowest free place, R55; their references in order. -/
def createRecords (env : Env) (sc : Scan) (consignment : Option Nat) : List Nat → Yard → List Nat × Yard
  | [], y => ([], y)
  | label :: rest, y =>
    let ref := lowestFree 0 y.pallets.cells
    let s := createRecords env sc consignment rest (y.setPallet ref (sc.record env y label consignment))
    (ref :: s.1, s.2)

/-- PALLET IN for labels that are not live, R62 step 6. -/
def Yard.scanFresh (y : Yard) (env : Env) (sc : Scan) : Answer Yard :=
  if Config.maxPallets < y.pallets.size + sc.pieces then .refused .full
  else
    let c := createRecords env sc (if 1 < sc.pieces then some sc.first else none) sc.labels y
    c.2.takeScan env sc 0 c.1 y.toFloor

/-- A rescan, R63, R183. -/
def Yard.rescan (y : Yard) (env : Env) (sc : Scan) (ref : Nat) : Answer Yard :=
  let p := y.pallet ref
  if p.state = .missing then
    (y.setPallet ref (sc.record env y p.label p.consignment)).takeScan env sc 1 [ref] y.toFloor
  else .done (le8 2 ++ le8 p.state.code ++ optLocBytes p.loc ++ opt8 p.dep) y

/-- PALLET IN, R62. -/
def answerPalletIn (body : List Byte) (env : Env) (y : Yard) : Answer Yard :=
  if body.length ≠ 16 ∨ u8 body 9 ≠ 0 then .refused .format
  else
    match readScan body with
    | none => .refused .range
    | some sc =>
      if env.isOpen = false then .refused .night
      else if (y.door sc.door).underlying ≠ .tipping then .refused .state
      else if sc.pieces = 1 then
        match y.refOf sc.first with
        | some ref => y.rescan env sc ref
        | none => y.scanFresh env sc
      else if sc.labels.any fun label => (y.refOf label).isSome then .refused .duplicate
      else y.scanFresh env sc

def execPalletIn (tag : Byte) (body : List Byte) (s : State) : Host.Outcome State Fault Refusal :=
  .next (takeRequest 0x31#8 tag body (asYard (answerPalletIn body)) s)

/-! ## Requests on one pallet, 3.6 -/

/-- A live record named by its label. -/
def labelled (body : List Byte) (y : Yard) (k : Nat → Answer Yard) : Answer Yard :=
  match y.refOf (u32 body 0) with
  | none => .refused .unknown
  | some ref => k ref

/-- R74: the states in which a pallet can be bumped. -/
def Pallet.bumpable (p : Pallet) : Bool :=
  match p.state with
  | .atDoor | .inLane => true
  | .inTransit => p.dep.isSome
  | .loading | .onTrailer | .held | .exception | .missing => false

/-- BUMP PALLET, R74. -/
def answerBumpPallet (body : List Byte) (env : Env) (y : Yard) : Answer Yard :=
  if body.length ≠ 4 then .refused .format
  else
    needsNight env <| labelled body y fun ref =>
      if (y.pallet ref).bumpable = false then .refused .state
      else
        let r := y.removeEntry env .bumpLift ref
        let h := (r.2.takeOffTip env ref).bindHold ref
        .done (le8 (h.2.pallet ref).state.code ++ le16 h.1 ++ le8 r.1) (h.2.watch env y.toFloor)

def execBumpPallet (tag : Byte) (body : List Byte) (s : State) : Host.Outcome State Fault Refusal :=
  .next (takeRequest 0x33#8 tag body (asYard (answerBumpPallet body)) s)

/-- R75: the states in which a record can be released. -/
def PalletState.releasable : PalletState → Bool
  | .held | .exception | .missing => true
  | .atDoor | .inTransit | .inLane | .loading | .onTrailer => false

/-- The exception reason of a record, 0 where it has none. -/
def Pallet.reasonCode (p : Pallet) : Nat := (p.reason.map (·.code)).getD 0

/-- RELEASE PALLET, R75. -/
def answerReleasePallet (body : List Byte) (env : Env) (y : Yard) : Answer Yard :=
  if body.length ≠ 4 then .refused .format
  else
    labelled body y fun ref =>
      let p := y.pallet ref
      if p.state.releasable = false then .refused .state
      else
        let z := ((y.takeOffRelocate env ref).leaveLoc p.loc ref).freePallet ref
        .done (le32 p.label ++ le8 p.state.code ++ le8 p.reasonCode) (z.watch env y.toFloor)

def execReleasePallet (tag : Byte) (body : List Byte) (s : State) : Host.Outcome State Fault Refusal :=
  .next (takeRequest 0x34#8 tag body (asYard (answerReleasePallet body)) s)

/-- Every field of a record, Table 3-1. -/
def Pallet.bytes (p : Pallet) : List Byte :=
  le32 p.label ++ opt32 p.consignment ++ le8 p.origin ++ le8 p.dest ++ le8 p.cls.code ++ le16 p.weight ++
    le16 p.height ++ le16 p.allowance ++ le8 p.state.code ++ optLocBytes p.loc ++ opt8 p.dep ++ slotBytes p.slot ++
    le16 p.scanMinute ++ le8 p.reasonCode

/-- Id, kind and state of the task that carries a pallet, R76; of a backlog entry its kind, QUEUED and id 0, R94. -/
def Floor.carrierBytes (f : Floor) (ref : Nat) : List Byte :=
  match f.carrier ref with
  | some (id, t) => le16 id ++ le8 t.kind.code ++ le8 (if t.isIssued then 2 else 1)
  | none =>
    match f.backlogOf ref with
    | some b => le16 0 ++ le8 b.kind.code ++ le8 1
    | none => le16 0 ++ le8 0 ++ le8 0

/-- GET PALLET, R76. -/
def answerGetPallet (body : List Byte) (_ : Env) (y : Yard) : Answer Yard :=
  if body.length ≠ 4 then .refused .format
  else
    labelled body y fun ref =>
      let p := y.pallet ref
      .done (p.bytes ++ le8 (((p.dep.bind fun d => y.statusOf d ref).map (·.code)).getD 0) ++ y.carrierBytes ref) y

def execGetPallet (tag : Byte) (body : List Byte) (s : State) : Host.Outcome State Fault Refusal :=
  .next (takeRequest 0x35#8 tag body (asYard (answerGetPallet body)) s)

end Sys2Proof.Machine
end

