-- ==== Sys2Proof/Machine/LaneRequests.lean ====
section
/-! DEFINITION. The requests of the lane table: WATCH_LANES (R85), ACK_ALERT (R88) and GET_LANE (R89). They are taken
whether the night is OPEN or CLOSED. -/

namespace Sys2Proof.Machine

/-- R85 for one lane: the high limit is lowered to the capacity where it is above it. -/
def Yard.setLimits (y : Yard) (plan : ActivePlan) (l : Nat) (high low : Option Nat) : Yard :=
  y.setLane l { y.lane l with high := high.map fun h => min h (plan.capacity l), low := low }

/-- WATCH LANES, R85. -/
def answerWatchLanes (body : List Byte) (env : Env) (y : Yard) : Answer Yard :=
  if body.length ≠ 3 then .refused .format
  else
    let target := u8 body 0
    let high := limitField (u8 body 1)
    let low := limitField (u8 body 2)
    if ¬(target = 255 ∨ 2 ≤ target ∧ target ≤ 65) ∨ high.any (fun h => h < 1 ∨ 40 < h) ∨ low.any (fun l => 39 < l) then
      .refused .range
    else if target = 255 then
      .done (le8 env.plan.lanes.size ++ [0#8])
        (env.plan.lanes.keys.foldl (fun z l => z.setLimits env.plan l high low) y)
    else if env.plan.lanes.has target then
      let z := y.setLimits env.plan target high low
      .done (le8 1 ++ limit8 (z.lane target).high) z
    else .refused .unknown

def execWatchLanes (tag : Byte) (body : List Byte) (s : State) : Host.Outcome State Fault Refusal :=
  .next (takeRequest 0x70#8 tag body (asYard (answerWatchLanes body)) s)

/-- A pending alert as a reply gives it: kind, minute and merged count, or absent. -/
def alertBytes (a : Option Alert) : List Byte :=
  match a with
  | some a => le8 a.kind.code ++ le16 a.minute ++ le8 a.merged
  | none => [0#8] ++ minute16 none ++ [0#8]

/-- ACK ALERT, R88. -/
def answerAckAlert (body : List Byte) (_ : Env) (y : Yard) : Answer Yard :=
  numbered body 2 65 fun l =>
    match (y.lane l).alert with
    | none => .refused .state
    | some a => .done (alertBytes (some a)) (y.setLane l { y.lane l with alert := none })

def execAckAlert (tag : Byte) (body : List Byte) (s : State) : Host.Outcome State Fault Refusal :=
  .next (takeRequest 0x71#8 tag body (asYard (answerAckAlert body)) s)

/-- A lane's binding, departure and role, 0 when absent. -/
def bindingBytes (b : Option (Nat × LaneRole)) : List Byte :=
  match b with
  | some (d, role) => le8 d ++ le8 role.code
  | none => [0#8, 0#8]

/-- GET LANE, R89. -/
def answerGetLane (body : List Byte) (env : Env) (y : Yard) : Answer Yard :=
  numbered body 2 65 fun l =>
    if env.plan.lanes.has l then
      let r := y.lane l
      .done (le8 (env.plan.capacity l) ++ bindingBytes (env.plan.binding l) ++ le8 r.present.length ++
        (r.present.flatMap fun ref => le32 (y.labelOf ref)) ++ le8 r.incoming ++ le8 r.occupancy ++
        limit8 r.high ++ limit8 r.low ++ alertBytes r.alert) y
    else .refused .unknown

def execGetLane (tag : Byte) (body : List Byte) (s : State) : Host.Outcome State Fault Refusal :=
  .next (takeRequest 0x72#8 tag body (asYard (answerGetLane body)) s)

end Sys2Proof.Machine
end

