-- ==== Sys2Proof/Machine/Line.lean ====
section
/-! DEFINITION. Resets, the receiver and the transmitter (R167 to R170, R173, R176, R178, R179): the commands POWER_ON to
FRAME_RECEIVED, REPLY_START, REPORT_START, CHARACTER_RECEIVED, RECEIVE_LINE_TO_MARK and FRAME_SENT. -/

namespace Sys2Proof.Machine

/-- A full reset, R179, in a part whose line stands as given. The queue of commands and the count of free choices are the
model's and stay (log 22). -/
def State.fullReset (s : State) (atSpace : Bool) : State :=
  { State.reset with
    link := { Link.reset with waitMark := atSpace, heldInReset := atSpace }
    draws := s.draws
    pending := s.pending }

/-- POWER_ON, R179. -/
def execPowerOn (s : State) : Host.Outcome State Fault Refusal := .next (s.fullReset false)

/-- RESET_PIN, R179: exactly as at power-on. -/
def execResetPin (s : State) : Host.Outcome State Fault Refusal := .next (s.fullReset false)

/-- LONG_BREAK, R179: the line is at space and the part stays reset until it returns to mark. -/
def execLongBreak (s : State) : Host.Outcome State Fault Refusal := .next (s.fullReset true)

/-- R178: the receiver is reset and waits for mark. Nothing is counted here (log 23). -/
def Link.shortBreak (l : Link) : Link := { l with rx := .hunt, waitMark := true }

/-- BREAK, R178. -/
def execLineBreak (s : State) : Host.Outcome State Fault Refusal := .next { s with link := s.link.shortBreak }

/-- One framing error is counted, saturating, R169. -/
def Link.countFraming (l : Link) : Link :=
  { l with framingErrors := satAdd Config.countMax l.framingErrors 1 }

/-- The partial frame is dropped with one framing error, R169. -/
def Link.dropPartial (l : Link) : Link := { l with rx := .hunt }.countFraming

/-- A frame is under assembly, R169: from the start byte to the last check byte. -/
def Rx.inFrame : Rx → Bool
  | .hunt => false
  | .header _ => true
  | .body .. => true

/-- R167: inside a frame the partial frame is dropped and the receiver waits for mark; while hunting the character is
ignored. -/
def Link.stopBitError (l : Link) : Link :=
  if l.rx.inFrame then { l.dropPartial with waitMark := true } else l

/-- STOP_BIT_ERROR, R167. -/
def execStopBitError (s : State) : Host.Outcome State Fault Refusal := .next { s with link := s.link.stopBitError }

/-- INTER_CHARACTER_TIMEOUT, R169: more than 5 ms between two characters inside a frame. -/
def execInterCharacterTimeout (s : State) : Host.Outcome State Fault Refusal :=
  .next { s with link := if s.link.rx.inFrame then s.link.dropPartial else s.link }

/-- R170: a complete frame joins the receive buffer, or is dropped and counted when 4 wait. -/
def Link.offer (l : Link) (f : Frame) : Link :=
  if l.buffer.length < Config.bufferSize then { l with buffer := l.buffer ++ [f] }
  else { l with droppedRequests := satAdd Config.countMax l.droppedRequests 1 }

/-- R169: the checks are compared, and a good frame is offered to the buffer. `got` is the body with its two check
bytes. -/
def Link.finishFrame (l : Link) (length kind tag : Byte) (got : List Byte) : Link :=
  let f : Frame := { kind := kind, tag := tag, body := got.take length.toNat }
  let l := { l with rx := .hunt }
  if got.drop length.toNat = checkBytes (length :: kind :: tag :: f.body) then l.offer f else l.countFraming

/-- R169: what a valid character does in each phase. -/
def Link.takeCharacter (l : Link) (c : Byte) : Link :=
  match l.rx with
  | .hunt => if c = Config.startByte then { l with rx := .header [] } else l
  | .header got =>
    match got with
    | [] => if Config.maxBody < c.toNat then l.dropPartial else { l with rx := .header [c] }
    | [length] => { l with rx := .header [length, c] }
    | length :: kind :: _ => { l with rx := .body length kind c [] }
  | .body length kind tag got =>
    if got.length + 1 < length.toNat + 2 then { l with rx := .body length kind tag (got ++ [c]) }
    else l.finishFrame length kind tag (got ++ [c])

/-- A valid character arrives; before the line has returned to mark the receiver takes none, R167, R178, R179. -/
def Link.receive (l : Link) (c : Byte) : Link := if l.waitMark then l else l.takeCharacter c

/-- The next character is the last check byte of the frame under assembly. -/
def Rx.atLastByte : Rx → Bool
  | .body length _ _ got => got.length + 1 == length.toNat + 2
  | .hunt => false
  | .header _ => false

/-- FRAME_RECEIVED, R169: the last check byte arrives. Where the receiver does not wait for it, the event has not come
(log 7). -/
def execFrameReceived (c : Byte) (s : State) : Host.Outcome State Fault Refusal :=
  .next { s with link := if s.link.rx.atLastByte then s.link.receive c else s.link }

/-- CHARACTER_RECEIVED, R169. -/
def execCharacterReceived (c : Byte) (s : State) : Host.Outcome State Fault Refusal :=
  .next { s with link := s.link.receive c }

/-- RECEIVE_LINE_TO_MARK, R178, R179: the receiver may hunt again and the part takes requests again. -/
def execReceiveLineToMark (s : State) : Host.Outcome State Fault Refusal :=
  .next { s with link := { s.link with waitMark := false, heldInReset := false } }

/-- R173: the free transmitter starts the waiting reply; a reply in hand then comes into the slot, R171. -/
def Link.startReply (l : Link) : Link :=
  match l.tx, l.slot with
  | none, some f => { l with tx := some f.bytes, slot := l.inHand, inHand := none }
  | _, _ => l

/-- REPLY_START, R173. -/
def execReplyStart (s : State) : Host.Outcome State Fault Refusal := .next { s with link := s.link.startReply }

/-- R173, R174, R176: the free transmitter, with no reply waiting, no request in hand and the gate open, starts the head
report with the pending drop count in its dropped-before field. -/
def Link.startReport (l : Link) : Link :=
  match l.tx, l.slot, l.inHand, l.gateOpen, l.reports with
  | none, none, none, true, r :: rest =>
    { l with
      tx := some { r with droppedBefore := l.pendingDrops }.frame.bytes
      reports := rest
      pendingDrops := 0 }
  | _, _, _, _, _ => l

/-- REPORT_START, R176. -/
def execReportStart (s : State) : Host.Outcome State Fault Refusal := .next { s with link := s.link.startReport }

/-- FRAME_SENT, R173: the transmitter becomes free. -/
def execFrameSent (s : State) : Host.Outcome State Fault Refusal := .next { s with link := { s.link with tx := none } }

end Sys2Proof.Machine
end

