-- ==== Sys2Proof/Machine/LinkRequests.lean ====
section
/-! DEFINITION. The link's own requests: UNKNOWN_REQUEST_KIND (R171), STATUS (R180) and SET_REPORTS (R177). -/

namespace Sys2Proof.Machine

/-- UNKNOWN_REQUEST_KIND, R171: a kind that is not a request kind code is answered REFUSED with KIND. -/
def execUnknownRequestKind (kind tag : Byte) (body : List Byte) (s : State) : Host.Outcome State Fault Refusal :=
  .next (if requestKinds.contains kind then s else takeRequest kind tag body (fun _ => .refused .kind) s)

/-- The number of tasks at a level and of those ISSUED, R180. -/
def Floor.levelCounts (f : Floor) (level : Nat) : List Byte :=
  let ts := f.tasks.values.filter fun t => t.level == level
  le16 ts.length ++ le16 (ts.filter Task.isIssued).length

/-- The number of the 24 movers in a state given by its test, R180. -/
def Floor.moversIn (f : Floor) (p : MoverState → Bool) : Nat :=
  ((List.range' 1 24).filter fun m => p (f.mover m).state).length

/-- The number of departures present in a state, R180. -/
def Floor.departuresIn (f : Floor) (st : DepState) : Nat := (f.departures.values.filter fun r => r.state == st).length

/-- The departure states in the order of R180. -/
def depStates : List DepState := [.planned, .waitingDoor, .loading, .loaded, .stopping, .stopped, .cut, .closed]

/-- The result of STATUS, R180. -/
def State.statusBytes (s : State) : List Byte :=
  flag8 s.clock.isOpen ++ le16 s.clock.minute ++ le16 s.clock.wave ++ flag8 s.clock.endReached ++
    le16 s.floor.pallets.size ++
    (List.range 8).flatMap s.floor.levelCounts ++ le16 s.floor.backlog.length ++
    le8 (s.floor.moversIn MoverState.isOff) ++ le8 (s.floor.moversIn MoverState.isIdle) ++
    le8 (s.floor.moversIn MoverState.isBusy) ++ flag8 s.floor.dispatchHold ++
    depStates.flatMap (fun st => le8 (s.floor.departuresIn st)) ++ le8 s.floor.waiting.length ++
    le8 (s.floor.lanes.values.filter fun r => r.alert.isSome).length ++
    le8 s.plan.method.code ++ le16 s.plan.shadow.count ++
    le8 s.link.reports.length ++ flag8 s.link.gateOpen ++ flag8 s.link.replaceMode ++
    le16 s.link.framingErrors ++ le16 s.link.droppedRequests ++ le16 s.link.droppedReports ++ le16 s.link.pendingDrops

/-- STATUS, R180. -/
def answerStatus (body : List Byte) (s : State) : Answer State :=
  if body.length ≠ 0 then .refused .format else .done s.statusBytes s

def execStatus (tag : Byte) (body : List Byte) (s : State) : Host.Outcome State Fault Refusal :=
  .next (takeRequest 0x01#8 tag body (answerStatus body) s)

/-- SET REPORTS, R177. -/
def answerSetReports (body : List Byte) (s : State) : Answer State :=
  if body.length ≠ 2 then .refused .format
  else
    match flagOfCode (u8 body 0), flagOfCode (u8 body 1) with
    | some gate, some mode =>
      .done (flag8 s.link.gateOpen ++ flag8 s.link.replaceMode ++ le8 s.link.reports.length ++ le16 s.link.pendingDrops)
        { s with link := { s.link with gateOpen := gate, replaceMode := mode } }
    | _, _ => .refused .range

def execSetReports (tag : Byte) (body : List Byte) (s : State) : Host.Outcome State Fault Refusal :=
  .next (takeRequest 0x02#8 tag body (answerSetReports body) s)

end Sys2Proof.Machine
end

