-- ==== Sys2Proof/Machine/MoverRequests.lean ====
section
/-! DEFINITION. The requests of movers and of the dispatcher's host controls: MOVER_ON (R98), MOVER_OFF (R99),
MOVER_READY (R100, R184), POST_TASK (R113), DISPATCH_HOLD (R114) and GET_TASK (R115). -/

namespace Sys2Proof.Machine

/-- A request on one mover: FORMAT, RANGE, NIGHT, R98. -/
def onMover (body : List Byte) (env : Env) (k : Nat → Answer Yard) : Answer Yard :=
  numbered body 1 24 fun m => needsNight env (k m)

/-- MOVER ON, R98. -/
def answerMoverOn (body : List Byte) (env : Env) (y : Yard) : Answer Yard :=
  onMover body env fun m =>
    match (y.mover m).state with
    | .idle | .busy _ => .refused .state
    | .off => .done (opt16 (y.mover m).last) (y.setMover m { y.mover m with state := .idle })

def execMoverOn (tag : Byte) (body : List Byte) (s : State) : Host.Outcome State Fault Refusal :=
  .next (takeRequest 0x40#8 tag body (asYard (answerMoverOn body)) s)

/-- MOVER OFF, R99: the task of a BUSY mover returns to a queue at its own level with its mark clear. -/
def answerMoverOff (body : List Byte) (env : Env) (y : Yard) : Answer Yard :=
  onMover body env fun m =>
    match (y.mover m).state with
    | .off => .refused .state
    | .idle => .done (le16 0) (y.setMover m { y.mover m with state := .off })
    | .busy id =>
      let level := ((y.tasks.get id).map (·.level)).getD 0
      .done (le16 id) (((y.freeMover id .off).returnTask env id level false).watch env y.toFloor)

def execMoverOff (tag : Byte) (body : List Byte) (s : State) : Host.Outcome State Fault Refusal :=
  .next (takeRequest 0x41#8 tag body (asYard (answerMoverOff body)) s)

/-! ## Asking for work -/

/-- A task that may be issued now, R96. -/
def Floor.eligible (f : Floor) (env : Env) (id : Nat) : Bool :=
  match f.tasks.get id with
  | some t => (f.ineligible env t).isNone
  | none => false

/-- The task that MOVER READY takes, R100: the eligible task nearest the head of the first level queue from 7 down that
holds one. -/
def Floor.nextTask (f : Floor) (env : Env) : Option Nat :=
  [7, 6, 5, 4, 3, 2, 1, 0].findSome? fun level => (f.queue level).find? fun id => f.eligible env id

/-- The door of the departure of a LOAD or DIRECT task, otherwise 0, Table 10-6. -/
def Env.taskDoor (env : Env) (t : Task) : Nat :=
  if t.loads then (((t.dep.bind env.depEntry).map (·.door)).getD 0) else 0

/-- The MOVER READY result of a task, Table 10-6. -/
def Floor.readyBytes (f : Floor) (env : Env) (id : Nat) (t : Task) : List Byte :=
  le8 1 ++ le16 id ++ le8 t.kind.code ++ le8 t.level ++ locBytes t.src ++ locBytes t.dst ++ le8 (env.taskDoor t) ++
    opt8 t.dep ++ le8 t.remaining ++ le8 t.unmoved.length ++ t.unmoved.flatMap fun ref => le32 (f.labelOf ref)

/-- MOVER READY, R100. -/
def answerMoverReady (body : List Byte) (env : Env) (y : Yard) : Answer Yard :=
  onMover body env fun m =>
    match (y.mover m).state with
    | .off | .busy _ => .refused .state
    | .idle =>
      match y.nextTask env with
      | none => .done (le8 0) y
      | some id =>
        match y.tasks.get id with
        | none => .done (le8 0) y
        | some t => .done (y.readyBytes env id t) (y.issueTask env m id)

def execMoverReady (tag : Byte) (body : List Byte) (s : State) : Host.Outcome State Fault Refusal :=
  .next (takeRequest 0x42#8 tag body (asYard (answerMoverReady body)) s)

/-! ## Host controls, 5.7 -/

/-- POST TASK, R113. -/
def answerPostTask (body : List Byte) (env : Env) (y : Yard) : Answer Yard :=
  let level := u8 body 0
  let total := u8 body 9
  if body.length ≠ 10 then .refused .format
  else
    match postedLoc body 1, postedLoc body 5 with
    | some src, some dst =>
      if 7 < level ∨ total < 1 ∨ 16 < total then .refused .range
      else
        needsNight env <|
          match y.createTask (newTask .posted level src dst [] total none) with
          | none => .refused .full
          | some r => .done (le16 r.1) r.2
    | _, _ => .refused .range

def execPostTask (tag : Byte) (body : List Byte) (s : State) : Host.Outcome State Fault Refusal :=
  .next (takeRequest 0x45#8 tag body (asYard (answerPostTask body)) s)

/-- DISPATCH HOLD, R114. -/
def answerDispatchHold (body : List Byte) (_ : Env) (y : Yard) : Answer Yard :=
  if body.length ≠ 1 then .refused .format
  else
    match flagOfCode (u8 body 0) with
    | none => .refused .range
    | some on => .done (flag8 y.dispatchHold) { y with dispatchHold := on }

def execDispatchHold (tag : Byte) (body : List Byte) (s : State) : Host.Outcome State Fault Refusal :=
  .next (takeRequest 0x46#8 tag body (asYard (answerDispatchHold body)) s)

/-- Each label of a task with whether it has been moved, R115. -/
def Floor.labelBytes (f : Floor) (t : Task) : List Byte :=
  ((t.pallets.take t.done).flatMap fun ref => le32 (f.labelOf ref) ++ flag8 true) ++
    t.unmoved.flatMap fun ref => le32 (f.labelOf ref) ++ flag8 false

/-- Place and ineligibility of a QUEUED task, zeros for an ISSUED one, R115. -/
def Floor.queueBytes (f : Floor) (env : Env) (id : Nat) (t : Task) : List Byte :=
  if t.isIssued then le16 0 ++ le8 0
  else le16 (placeIn id (f.queue t.level)) ++ le8 (((f.ineligible env t).map (·.code)).getD 0)

/-- GET TASK, R115. DESIGN CHOICE: the pallet list of Table 5-1 is given once, as the marked labels after the expired-once
mark, each label before its mark (log 8). -/
def answerGetTask (body : List Byte) (env : Env) (y : Yard) : Answer Yard :=
  if body.length ≠ 2 then .refused .format
  else
    match y.tasks.get (u16 body 0) with
    | none => .refused .unknown
    | some t =>
      .done (le16 (u16 body 0) ++ le8 t.kind.code ++ le8 t.level ++ locBytes t.src ++ locBytes t.dst ++
        le8 t.total ++ le8 t.done ++ le8 (if t.isIssued then 2 else 1) ++ opt8 t.mover ++ opt8 t.lastMover ++
        minute16 t.issueMinute ++ opt8 t.dep ++ flag8 t.mark ++ y.labelBytes t ++
        y.queueBytes env (u16 body 0) t) y

def execGetTask (tag : Byte) (body : List Byte) (s : State) : Host.Outcome State Fault Refusal :=
  .next (takeRequest 0x47#8 tag body (asYard (answerGetTask body)) s)

end Sys2Proof.Machine
end

