-- ==== Sys2Proof/Machine/PlanRequests.lean ====
section
/-! DEFINITION. The requests of the plan store: SET_NIGHT, SET_DOOR and SET_LANE (R133), SET_PROFILE (R134),
SET_DEPARTURE (R135), SET_ROUTE (R136), SET_METHOD (R137), ACTIVATE (R139) and GET_PLAN (R151). -/

namespace Sys2Proof.Machine

/-! ## Reading an entry, each field against its range -/

def inRange (lo hi n : Nat) : Bool := lo ≤ n && n ≤ hi

/-- The entry of a SET NIGHT body, R133. -/
def readNight (body : List Byte) : Option PlanEntry :=
  if inRange 15 120 (u8 body 0) && inRange 0 60 (u8 body 1) && inRange 1 60 (u8 body 2) then
    some (.night { waveLength := u8 body 0, lateMargin := u8 body 1, taskLimit := u8 body 2 })
  else none

/-- The lever fields of rows 1 to `rows`, R134. -/
def readLevers (body : List Byte) (rows : Nat) : List Nat := (List.range rows).map fun i => u16 body (11 + 2 * i)

/-- The entry of a SET PROFILE body, R134: the lever fields beyond rows are neither checked nor kept. -/
def readProfile (body : List Byte) : Option PlanEntry :=
  let rows := u8 body 1
  if inRange 1 8 (u8 body 0) && inRange 8 15 rows && inRange 1 3 (u8 body 2) && inRange 100 320 (u16 body 3) &&
      inRange 1 30000 (u16 body 5) && inRange 1 30000 (u16 body 7) && inRange 1 30000 (u16 body 9) &&
      (readLevers body rows).all (inRange 0 1000) then
    some (.profile (u8 body 0)
      { rows := rows
        tiers := u8 body 2
        clearHeight := u16 body 3
        payload := u16 body 5
        kingpin := u16 body 7
        bogie := u16 body 9
        levers := readLevers body rows })
  else none

/-- The entry of a SET DOOR body, R133. -/
def readDoor (body : List Byte) : Option PlanEntry :=
  match DoorRole.ofCode (u8 body 1), FaultMode.ofCode (u8 body 3) with
  | some role, some mode =>
    if inRange 1 32 (u8 body 0) && inRange 0 60 (u8 body 2) then
      some (.door (u8 body 0) { role := role, gap := u8 body 2, mode := mode })
    else none
  | _, _ => none

/-- The entry of a SET LANE body, R133. -/
def readLane (body : List Byte) : Option PlanEntry :=
  if inRange 2 65 (u8 body 0) && inRange 1 40 (u8 body 1) then some (.lane (u8 body 0) (u8 body 1)) else none

/-- An optional lane field, R135. -/
def laneOrNone (n : Nat) : Bool := n = 0 || inRange 2 65 n

/-- The plan fields of a SET DEPARTURE body, R135. -/
def readDepartureFields (body : List Byte) : DepartureEntry where
  profile := u8 body 2
  drop1 := u8 body 3
  drop2 := optField (u8 body 4)
  split := u8 body 5
  primary1 := u8 body 6
  secondary1 := optField (u8 body 7)
  primary2 := optField (u8 body 8)
  secondary2 := optField (u8 body 9)
  door := u8 body 10
  call := u16 body 11
  cut := u16 body 13
  batch := u8 body 15
  reserve := u8 body 16

/-- The field ranges of R135. -/
def departureRanges (body : List Byte) : Bool :=
  inRange 1 8 (u8 body 2) && inRange 1 254 (u8 body 3) && inRange 0 254 (u8 body 4) && inRange 0 14 (u8 body 5) &&
    inRange 2 65 (u8 body 6) && laneOrNone (u8 body 7) && laneOrNone (u8 body 8) && laneOrNone (u8 body 9) &&
    inRange 1 32 (u8 body 10) && inRange 0 1439 (u16 body 11) && inRange 1 1440 (u16 body 13) &&
    inRange 1 8 (u8 body 15) && inRange 0 4 (u8 body 16)

/-- The write-time conditions of R135. -/
def DepartureEntry.combinationOk (e : DepartureEntry) : Bool :=
  match e.drop2 with
  | none => e.split = 0 && e.primary2.isNone && e.secondary2.isNone
  | some d => 1 ≤ e.split && e.primary2.isSome && d ≠ e.drop1

/-- The entry of a SET DEPARTURE body, R135: of a withdrawal no other field is checked. -/
def readDeparture (body : List Byte) : Option PlanEntry :=
  if !inRange 1 48 (u8 body 0) then none
  else
    match flagOfCode (u8 body 1) with
    | none => none
    | some true => some (.departure (u8 body 0) .withdraw)
    | some false =>
      let e := readDepartureFields body
      if departureRanges body && e.combinationOk then some (.departure (u8 body 0) (.entry e)) else none

/-- The body of a SET ROUTE has the length that its count fixes, R136, R181. -/
def routeLength (body : List Byte) : Bool := 2 ≤ body.length && body.length = 2 + u8 body 1

/-- The entry of a SET ROUTE body, R136. -/
def readRoute (body : List Byte) : Option PlanEntry :=
  let list := (body.drop 2).map BitVec.toNat
  if inRange 1 254 (u8 body 0) && inRange 0 3 (u8 body 1) && list.all (inRange 1 48) && !hasRepeat list then
    some (.route (u8 body 0) list)
  else none

/-! ## The common course of a SET, R132 -/

/-- Outcome code and reason of an entry taken: 1 APPLIED, 2 REJECTED (log 8). -/
def outcomeBytes (reject : Option RejectReason) : List Byte :=
  le8 (if reject.isNone then 1 else 2) ++ le8 ((reject.map (·.code)).getD 0)

/-- The outcome of the request's own entry, zeros where no update point was made. -/
def Outcomes.own (o : Outcomes) (e : PlanEntry) : List Byte :=
  match o.find? fun x => x.1 == e with
  | some x => outcomeBytes x.2
  | none => [0#8, 0#8]

/-- A SET request is itself an update point, R132, R138. -/
def Run.writeUpdates (r : Run) : Bool := r.plan.method == .immediate || !r.clock.isOpen

/-- A checked entry becomes its object's pending entry, and the update point follows where the request is one. -/
def Run.write (r : Run) (e : PlanEntry) : Outcomes × Run :=
  let r1 := { r with plan := { r.plan with shadow := r.plan.shadow.write e } }
  if r.writeUpdates then r1.updatePoint .write else ([], r1)

/-- R132: FORMAT, RANGE, then the entry is written. -/
def answerSet (lengthOk : Bool) (entry : Option PlanEntry) (r : Run) : Answer Run :=
  if lengthOk = false then .refused .format
  else
    match entry with
    | none => .refused .range
    | some e =>
      let u := r.write e
      .done (flag8 (r.plan.shadow.pendingFor e) ++ flag8 r.writeUpdates ++ u.1.own e ++
        le16 u.1.applied ++ le16 u.1.rejected ++ le16 u.2.plan.shadow.count) u.2

/-- SET NIGHT, R133. -/
def execSetNight (tag : Byte) (body : List Byte) (s : State) : Host.Outcome State Fault Refusal :=
  .next (takeRequest 0x20#8 tag body (asRun (answerSet (body.length == 3) (readNight body))) s)

/-- SET PROFILE, R134. -/
def execSetProfile (tag : Byte) (body : List Byte) (s : State) : Host.Outcome State Fault Refusal :=
  .next (takeRequest 0x21#8 tag body (asRun (answerSet (body.length == 41) (readProfile body))) s)

/-- SET DOOR, R133. -/
def execSetDoor (tag : Byte) (body : List Byte) (s : State) : Host.Outcome State Fault Refusal :=
  .next (takeRequest 0x22#8 tag body (asRun (answerSet (body.length == 4) (readDoor body))) s)

/-- SET LANE, R133. -/
def execSetLane (tag : Byte) (body : List Byte) (s : State) : Host.Outcome State Fault Refusal :=
  .next (takeRequest 0x23#8 tag body (asRun (answerSet (body.length == 2) (readLane body))) s)

/-- SET DEPARTURE, R135. -/
def execSetDeparture (tag : Byte) (body : List Byte) (s : State) : Host.Outcome State Fault Refusal :=
  .next (takeRequest 0x24#8 tag body (asRun (answerSet (body.length == 17) (readDeparture body))) s)

/-- SET ROUTE, R136. -/
def execSetRoute (tag : Byte) (body : List Byte) (s : State) : Host.Outcome State Fault Refusal :=
  .next (takeRequest 0x25#8 tag body (asRun (answerSet (routeLength body) (readRoute body))) s)

/-! ## Method, activation and reading -/

/-- SET METHOD, R137: the pending entries stay pending. -/
def answerSetMethod (body : List Byte) (r : Run) : Answer Run :=
  if body.length ≠ 1 then .refused .format
  else
    match UpdateMethod.ofCode (u8 body 0) with
    | none => .refused .range
    | some m => .done (le8 r.plan.method.code) { r with plan := { r.plan with method := m } }

def execSetMethod (tag : Byte) (body : List Byte) (s : State) : Host.Outcome State Fault Refusal :=
  .next (takeRequest 0x26#8 tag body (asRun (answerSetMethod body)) s)

/-- ACTIVATE, R139. -/
def answerActivate (body : List Byte) (r : Run) : Answer Run :=
  if body.length ≠ 0 then .refused .format
  else
    let u := r.updatePoint .activate
    .done (le16 u.1.applied ++ le16 u.1.rejected ++ le16 u.2.plan.shadow.count) u.2

def execActivate (tag : Byte) (body : List Byte) (s : State) : Host.Outcome State Fault Refusal :=
  .next (takeRequest 0x27#8 tag body (asRun (answerActivate body)) s)

def NightEntry.bytes (e : NightEntry) : List Byte := le8 e.waveLength ++ le8 e.lateMargin ++ le8 e.taskLimit

/-- The fifteen lever fields stand whatever the rows; those beyond rows do not apply and hold 0, R181. -/
def Profile.bytes (e : Profile) : List Byte :=
  le8 e.rows ++ le8 e.tiers ++ le16 e.clearHeight ++ le16 e.payload ++ le16 e.kingpin ++ le16 e.bogie ++
    ((e.levers ++ List.replicate 15 0).take 15).flatMap le16

def DoorEntry.bytes (e : DoorEntry) : List Byte := le8 e.role.code ++ le8 e.gap ++ le8 e.mode.code

def DepartureEntry.bytes (e : DepartureEntry) : List Byte :=
  le8 e.profile ++ le8 e.drop1 ++ opt8 e.drop2 ++ le8 e.split ++ le8 e.primary1 ++ opt8 e.secondary1 ++
    opt8 e.primary2 ++ opt8 e.secondary2 ++ le8 e.door ++ le16 e.call ++ le16 e.cut ++ le8 e.batch ++ le8 e.reserve

/-- A route's departures, their count first. -/
def routeBytes (list : List Nat) : List Byte := le8 list.length ++ list.flatMap le8

/-- The fields of an absent entry of `width` bytes, R181: numbers and counts hold 0. -/
def noFields (width : Nat) : List Byte := List.replicate width 0#8

/-- The fields of an absent departure entry, R181: its two minutes hold 0xFFFF. -/
def noDepartureFields : List Byte := noFields 9 ++ minute16 none ++ minute16 none ++ noFields 2

/-- An entry as GET PLAN shows it: 0 absent, 1 an entry, 2 a withdrawal, then the fields, those of an absent entry where
there are none (log 8). -/
def shown {α : Type} (fields : α → List Byte) (absent : List Byte) (e : Option α) : List Byte :=
  match e with
  | some x => le8 1 ++ fields x
  | none => le8 0 ++ absent

/-- A pending departure entry as GET PLAN shows it. -/
def shownWrite (w : Option DepartureWrite) : List Byte :=
  match w with
  | some .withdraw => le8 2 ++ noDepartureFields
  | some (.entry e) => shown DepartureEntry.bytes noDepartureFields (some e)
  | none => shown DepartureEntry.bytes noDepartureFields none

/-- The numbers of an object kind, R130. -/
def PlanKind.numberOk : PlanKind → Nat → Bool
  | .night => fun n => n = 0
  | .profile => inRange 1 8
  | .door => inRange 1 32
  | .lane => inRange 2 65
  | .departure => inRange 1 48
  | .route => inRange 1 254

/-- Active and pending entry of an object, shown alike. -/
def shownBoth {α : Type} (fields : α → List Byte) (width : Nat) (active pending : Option α) : List Byte :=
  shown fields (noFields width) active ++ shown fields (noFields width) pending

/-- Active and pending entry of an object, R151; nothing where it has neither. -/
def PlanStore.show (p : PlanStore) (kind : PlanKind) (n : Nat) : Option (List Byte) :=
  match kind with
  | .night => some (shownBoth NightEntry.bytes 3 (some p.active.night) p.shadow.night)
  | .profile =>
    if p.active.profiles.has n || p.shadow.profiles.has n then
      some (shownBoth Profile.bytes 40 (p.active.profiles.get n) (p.shadow.profiles.get n))
    else none
  | .door =>
    if p.active.doors.has n || p.shadow.doors.has n then
      some (shownBoth DoorEntry.bytes 3 (p.active.doors.get n) (p.shadow.doors.get n))
    else none
  | .lane =>
    if p.active.lanes.has n || p.shadow.lanes.has n then
      some (shownBoth le8 1 (p.active.lanes.get n) (p.shadow.lanes.get n))
    else none
  | .departure =>
    if p.active.departures.has n || p.shadow.departures.has n then
      some (shown DepartureEntry.bytes noDepartureFields (p.active.departures.get n) ++
        shownWrite (p.shadow.departures.get n))
    else none
  | .route =>
    if p.active.routes.has n || p.shadow.routes.has n then
      some (shownBoth routeBytes 1 (p.active.routes.get n) (p.shadow.routes.get n))
    else none

/-- GET PLAN, R151. -/
def answerGetPlan (body : List Byte) (r : Run) : Answer Run :=
  if body.length ≠ 2 then .refused .format
  else
    match PlanKind.ofCode (u8 body 0) with
    | none => .refused .range
    | some kind =>
      if kind.numberOk (u8 body 1) then
        match r.plan.show kind (u8 body 1) with
        | none => .refused .unknown
        | some entries => .done (entries ++ le8 r.plan.method.code ++ le16 r.plan.shadow.count) r
      else .refused .range

def execGetPlan (tag : Byte) (body : List Byte) (s : State) : Host.Outcome State Fault Refusal :=
  .next (takeRequest 0x28#8 tag body (asRun (answerGetPlan body)) s)

end Sys2Proof.Machine
end

