-- ==== Sys2Proof/Machine/TaskReports.lean ====
section
/-! DEFINITION. A mover's reports on a task: TASK_DONE (R102 to R105) and TASK_FAIL (R106 to R109). -/

namespace Sys2Proof.Machine

/-- The judgement of a report, R102 step 5: case (a), case (b), or refused. -/
inductive Verdict where
  | current
  | late
  | refused (c : RefusalCode)
deriving DecidableEq, Repr

/-- The acceptance table of R102. -/
def Task.judge (t : Task) (m : Nat) : Verdict :=
  match t.mover with
  | some holder => if holder = m then .current else .refused .stale
  | none =>
    match t.lastMover with
    | none => .refused .state
    | some last => if last ≠ m then .refused .stale else if t.mark then .late else .refused .state

/-- R102 steps 1 to 5 for a report whose further fields are in range when `fieldsOk`. `k` gets id, mover, task and whether
the report is late. -/
def onReport (body : List Byte) (length : Nat) (fieldsOk : Bool) (env : Env) (y : Yard)
    (k : Nat → Nat → Task → Bool → Answer Yard) : Answer Yard :=
  let id := u16 body 0
  let m := u8 body 2
  if body.length ≠ length then .refused .format
  else if m < 1 ∨ 24 < m ∨ fieldsOk = false then .refused .range
  else
    needsNight env <|
      match y.tasks.get id with
      | none => .refused .unknown
      | some t =>
        match t.judge m with
        | .refused c => .refused c
        | .current => k id m t false
        | .late => k id m t true

/-- R104: a task all of whose lifts are done ends; in case (a) its mover becomes IDLE and departure control is told. -/
def Yard.endTask (y : Yard) (env : Env) (id : Nat) (t : Task) (late : Bool) : Yard :=
  let z := (y.freeMover id .idle).leavePool env id
  if late then z else z.toldEnded env t

/-- R105: the scanned label differs from the label of the first pallet moved. -/
def mismatch (scanned : Nat) (moved : List Nat) : Bool :=
  match moved with
  | label :: _ => scanned != 0 && scanned != label
  | [] => false

/-- TASK DONE, R102 to R105. -/
def answerTaskDone (body : List Byte) (env : Env) (y : Yard) : Answer Yard :=
  onReport body 8 true env y fun id _ t late =>
    let n := u8 body 3
    if n = 0 ∨ t.remaining < n then .refused .range
    else
      let moved := (t.unmoved.take n).map y.labelOf
      let ended := decide (n = t.remaining)
      let z := y.recordLifts env id t n
      let z := if ended then z.endTask env id t late else z
      .done (le16 id ++ le8 (t.done + n) ++ le8 t.total ++ flag8 ended ++ moved.flatMap le32 ++ flag8 late ++
        flag8 (mismatch (u32 body 4) moved)) (z.watch env y.toFloor)

def execTaskDone (tag : Byte) (body : List Byte) (s : State) : Host.Outcome State Fault Refusal :=
  .next (takeRequest 0x43#8 tag body (asYard (answerTaskDone body)) s)

/-! ## Failure -/

/-- The end of a failed task's issue in case (a), R106, before the reason acts: the mover becomes IDLE, a load task is ISSUED
no more, and departure control is told. In case (b) no mover holds the task. DESIGN CHOICE: a TIP task counts as ISSUED
until it returns or leaves the pool, so a pallet of it that a removal of R109 lifts is routed as IN TRANSIT on an ISSUED TIP
task (R70, R111; log 34). -/
def Yard.endIssue (y : Yard) (env : Env) (id : Nat) (t : Task) (late : Bool) : Yard :=
  if late then y
  else
    ((y.freeMover id .idle).modTask id fun t => { t with mover := if t.loads then none else t.mover }).toldEnded env t

/-- R107 for one pallet of task `t`: its entry, its place in a lane count, MISSING and the note. A move that an earlier
pallet's removal has given it is taken back, since no task carries a MISSING pallet (Table 3-2, log 31). -/
def Yard.notFoundPallet (y : Yard) (env : Env) (t : Task) (ref : Nat) : Yard :=
  let former := ((y.pallet ref).dep).getD 0
  let z := (y.removeEntry env .replacement ref).2
  let z := (z.takeOffTip env ref).takeOffRelocate env ref
  let z := if t.kind = .tip then z.unexpectAt t.dst else z.leaveLoc (z.pallet ref).loc ref
  z.goMissing env .notFound former ref

/-- TASK FAIL NOT FOUND, R107: the task leaves the pool, then each pallet not yet moved is handed over. -/
def Yard.failNotFound (y : Yard) (env : Env) (id : Nat) (t : Task) : Yard :=
  t.unmoved.foldl (fun z ref => z.notFoundPallet env t ref) (y.leavePool env id)

/-- TASK FAIL BLOCKED, R108. -/
def Yard.failBlocked (y : Yard) (env : Env) (id : Nat) (t : Task) : Yard :=
  y.returnTask env id t.level false

/-- R109 steps 1 to 5 for the damaged pallet `ref` of task `t`, which it has left. -/
def Yard.damagedPallet (y : Yard) (env : Env) (t : Task) (ref : Nat) : Yard :=
  let former := ((y.pallet ref).dep).getD 0
  let z := (y.removeEntry env .replacement ref).2
  let z := if t.kind = .tip then z.unexpectAt t.dst else z
  let z := z.modPallet ref fun p => { p with state := .exception, reason := some .damaged, loc := some t.src }
  let z := (z.askTask .relocate 0 t.src .exceptionBay ref).2
  z.note env former (.pallet (z.labelOf ref) (.exception .damaged))

/-- The end of R109: with no pallet left to move the task leaves the pool, otherwise it returns to a queue. A task without
a last mover is a new one under the id of a task that has already left (R93). -/
def Yard.settleDamaged (y : Yard) (env : Env) (id : Nat) : Yard :=
  match y.tasks.get id with
  | none => y
  | some t =>
    if t.lastMover.isNone then y
    else if t.unmoved.isEmpty then y.leavePool env id
    else y.returnTask env id t.level false

/-- TASK FAIL DAMAGED for a task with a pallet still to move, R109. -/
def Yard.failDamaged (y : Yard) (env : Env) (id : Nat) (t : Task) (ref : Nat) : Yard :=
  ((y.modTask id fun t => t.without ref).damagedPallet env t ref).settleDamaged env id

/-- R107 to R109, what the reason decides: the pallets made MISSING or EXCEPTION, and the floor afterwards. For a POSTED task DAMAGED acts as NOT
FOUND does. -/
def Yard.failTask (y : Yard) (env : Env) (id : Nat) (t : Task) : FailReason → List Nat × Yard
  | .blocked => ([], y.failBlocked env id t)
  | .notFound => (t.unmoved, y.failNotFound env id t)
  | .damaged =>
    match t.unmoved with
    | ref :: _ => ([ref], y.failDamaged env id t ref)
    | [] => ([], y.failNotFound env id t)

/-- What became of the task: 0 and 0 for ended, 1 and its level for QUEUED (log 8). A task that has been issued keeps its
last mover, so a new task under a freed id is told apart. -/
def Floor.becameBytes (f : Floor) (id : Nat) : List Byte :=
  match f.tasks.get id with
  | some t => if t.lastMover.isSome then le8 1 ++ le8 t.level else le8 0 ++ le8 0
  | none => le8 0 ++ le8 0

/-- TASK FAIL, R106: the issue ends first, and then the reason decides the rest. -/
def answerTaskFail (body : List Byte) (env : Env) (y : Yard) : Answer Yard :=
  let reason := FailReason.ofCode (u8 body 3)
  onReport body 4 reason.isSome env y fun id _ t late =>
    let r := (y.endIssue env id t late).failTask env id t (reason.getD .blocked)
    .done (le16 id ++ r.2.becameBytes id ++ (r.1.map y.labelOf).flatMap le32) (r.2.watch env y.toFloor)

def execTaskFail (tag : Byte) (body : List Byte) (s : State) : Host.Outcome State Fault Refusal :=
  .next (takeRequest 0x44#8 tag body (asYard (answerTaskFail body)) s)

end Sys2Proof.Machine
end

