-- ==== Sys2Proof/Machine/Dispatch.lean ====
section
/-! DEFINITION. Every command to its meaning. -/

namespace Sys2Proof.Machine

/-- The effect of a command on everything but the queue. -/
def exec (i : Instr) (s : State) : Host.Outcome State Fault Refusal :=
  match i with
  | .powerOn => Sys2Proof.Machine.execPowerOn s
  | .resetPin => Sys2Proof.Machine.execResetPin s
  | .longBreak => Sys2Proof.Machine.execLongBreak s
  | .lineBreak => Sys2Proof.Machine.execLineBreak s
  | .stopBitError => Sys2Proof.Machine.execStopBitError s
  | .interCharacterTimeout => Sys2Proof.Machine.execInterCharacterTimeout s
  | .frameReceived c => Sys2Proof.Machine.execFrameReceived c s
  | .unknownRequestKind kind tag body => Sys2Proof.Machine.execUnknownRequestKind kind tag body s
  | .replyStart => Sys2Proof.Machine.execReplyStart s
  | .reportStart => Sys2Proof.Machine.execReportStart s
  | .status tag body => Sys2Proof.Machine.execStatus tag body s
  | .setReports tag body => Sys2Proof.Machine.execSetReports tag body s
  | .nightOpen tag body => Sys2Proof.Machine.execNightOpen tag body s
  | .nightClose tag body => Sys2Proof.Machine.execNightClose tag body s
  | .clockSync tag body => Sys2Proof.Machine.execClockSync tag body s
  | .setNight tag body => Sys2Proof.Machine.execSetNight tag body s
  | .setProfile tag body => Sys2Proof.Machine.execSetProfile tag body s
  | .setDoor tag body => Sys2Proof.Machine.execSetDoor tag body s
  | .setLane tag body => Sys2Proof.Machine.execSetLane tag body s
  | .setDeparture tag body => Sys2Proof.Machine.execSetDeparture tag body s
  | .setRoute tag body => Sys2Proof.Machine.execSetRoute tag body s
  | .setMethod tag body => Sys2Proof.Machine.execSetMethod tag body s
  | .activate tag body => Sys2Proof.Machine.execActivate tag body s
  | .getPlan tag body => Sys2Proof.Machine.execGetPlan tag body s
  | .tipOpen tag body => Sys2Proof.Machine.execTipOpen tag body s
  | .palletIn tag body => Sys2Proof.Machine.execPalletIn tag body s
  | .tipClose tag body => Sys2Proof.Machine.execTipClose tag body s
  | .bumpPallet tag body => Sys2Proof.Machine.execBumpPallet tag body s
  | .releasePallet tag body => Sys2Proof.Machine.execReleasePallet tag body s
  | .getPallet tag body => Sys2Proof.Machine.execGetPallet tag body s
  | .moverOn tag body => Sys2Proof.Machine.execMoverOn tag body s
  | .moverOff tag body => Sys2Proof.Machine.execMoverOff tag body s
  | .moverReady tag body => Sys2Proof.Machine.execMoverReady tag body s
  | .taskDone tag body => Sys2Proof.Machine.execTaskDone tag body s
  | .taskFail tag body => Sys2Proof.Machine.execTaskFail tag body s
  | .postTask tag body => Sys2Proof.Machine.execPostTask tag body s
  | .dispatchHold tag body => Sys2Proof.Machine.execDispatchHold tag body s
  | .getTask tag body => Sys2Proof.Machine.execGetTask tag body s
  | .taskExpiry id => Sys2Proof.Machine.execTaskExpiry id s
  | .callNow tag body => Sys2Proof.Machine.execCallNow tag body s
  | .cutNow tag body => Sys2Proof.Machine.execCutNow tag body s
  | .holdLoad tag body => Sys2Proof.Machine.execHoldLoad tag body s
  | .freeLoad tag body => Sys2Proof.Machine.execFreeLoad tag body s
  | .abortLoad tag body => Sys2Proof.Machine.execAbortLoad tag body s
  | .resumeLoad tag body => Sys2Proof.Machine.execResumeLoad tag body s
  | .depart tag body => Sys2Proof.Machine.execDepart tag body s
  | .getDeparture tag body => Sys2Proof.Machine.execGetDeparture tag body s
  | .callEvent dep => Sys2Proof.Machine.execCallEvent dep s
  | .lateMarginEvent dep => Sys2Proof.Machine.execLateMarginEvent dep s
  | .cutEvent dep => Sys2Proof.Machine.execCutEvent dep s
  | .doorFault tag body => Sys2Proof.Machine.execDoorFault tag body s
  | .doorClear tag body => Sys2Proof.Machine.execDoorClear tag body s
  | .doorResume tag body => Sys2Proof.Machine.execDoorResume tag body s
  | .getDoor tag body => Sys2Proof.Machine.execGetDoor tag body s
  | .changeoverEnd door => Sys2Proof.Machine.execChangeoverEnd door s
  | .watchLanes tag body => Sys2Proof.Machine.execWatchLanes tag body s
  | .ackAlert tag body => Sys2Proof.Machine.execAckAlert tag body s
  | .getLane tag body => Sys2Proof.Machine.execGetLane tag body s
  | .minuteTick => Sys2Proof.Machine.execMinuteTick s
  | .waveBoundary => Sys2Proof.Machine.execWaveBoundary s
  | .endReached => Sys2Proof.Machine.execEndReached s
  | .timeBaseSecond => Sys2Proof.Machine.execTimeBaseSecond s
  | .characterReceived c => Sys2Proof.Machine.execCharacterReceived c s
  | .receiveLineToMark => Sys2Proof.Machine.execReceiveLineToMark s
  | .frameSent => Sys2Proof.Machine.execFrameSent s

end Sys2Proof.Machine
end

