-- ==== Sys2Proof/Safety.lean ====
section
/-! DEFINITION. The terms that claims use: the frame of a request command, bounds that the rules give the link, the clock
and the tables, and what it means for an answer to be handed over. -/

namespace Sys2Proof.Machine

/-- The frame of a request command, Tables 10-1 and 10-2; no other command is a request. -/
def requestFrame : Instr → Option Frame
  | .powerOn => none
  | .resetPin => none
  | .longBreak => none
  | .lineBreak => none
  | .stopBitError => none
  | .interCharacterTimeout => none
  | .frameReceived _ => none
  | .unknownRequestKind kind tag body => some { kind := kind, tag := tag, body := body }
  | .replyStart => none
  | .reportStart => none
  | .status tag body => some { kind := 0x01#8, tag := tag, body := body }
  | .setReports tag body => some { kind := 0x02#8, tag := tag, body := body }
  | .nightOpen tag body => some { kind := 0x10#8, tag := tag, body := body }
  | .nightClose tag body => some { kind := 0x11#8, tag := tag, body := body }
  | .clockSync tag body => some { kind := 0x12#8, tag := tag, body := body }
  | .setNight tag body => some { kind := 0x20#8, tag := tag, body := body }
  | .setProfile tag body => some { kind := 0x21#8, tag := tag, body := body }
  | .setDoor tag body => some { kind := 0x22#8, tag := tag, body := body }
  | .setLane tag body => some { kind := 0x23#8, tag := tag, body := body }
  | .setDeparture tag body => some { kind := 0x24#8, tag := tag, body := body }
  | .setRoute tag body => some { kind := 0x25#8, tag := tag, body := body }
  | .setMethod tag body => some { kind := 0x26#8, tag := tag, body := body }
  | .activate tag body => some { kind := 0x27#8, tag := tag, body := body }
  | .getPlan tag body => some { kind := 0x28#8, tag := tag, body := body }
  | .tipOpen tag body => some { kind := 0x30#8, tag := tag, body := body }
  | .palletIn tag body => some { kind := 0x31#8, tag := tag, body := body }
  | .tipClose tag body => some { kind := 0x32#8, tag := tag, body := body }
  | .bumpPallet tag body => some { kind := 0x33#8, tag := tag, body := body }
  | .releasePallet tag body => some { kind := 0x34#8, tag := tag, body := body }
  | .getPallet tag body => some { kind := 0x35#8, tag := tag, body := body }
  | .moverOn tag body => some { kind := 0x40#8, tag := tag, body := body }
  | .moverOff tag body => some { kind := 0x41#8, tag := tag, body := body }
  | .moverReady tag body => some { kind := 0x42#8, tag := tag, body := body }
  | .taskDone tag body => some { kind := 0x43#8, tag := tag, body := body }
  | .taskFail tag body => some { kind := 0x44#8, tag := tag, body := body }
  | .postTask tag body => some { kind := 0x45#8, tag := tag, body := body }
  | .dispatchHold tag body => some { kind := 0x46#8, tag := tag, body := body }
  | .getTask tag body => some { kind := 0x47#8, tag := tag, body := body }
  | .taskExpiry _ => none
  | .callNow tag body => some { kind := 0x50#8, tag := tag, body := body }
  | .cutNow tag body => some { kind := 0x51#8, tag := tag, body := body }
  | .holdLoad tag body => some { kind := 0x52#8, tag := tag, body := body }
  | .freeLoad tag body => some { kind := 0x53#8, tag := tag, body := body }
  | .abortLoad tag body => some { kind := 0x54#8, tag := tag, body := body }
  | .resumeLoad tag body => some { kind := 0x55#8, tag := tag, body := body }
  | .depart tag body => some { kind := 0x56#8, tag := tag, body := body }
  | .getDeparture tag body => some { kind := 0x57#8, tag := tag, body := body }
  | .callEvent _ => none
  | .lateMarginEvent _ => none
  | .cutEvent _ => none
  | .doorFault tag body => some { kind := 0x60#8, tag := tag, body := body }
  | .doorClear tag body => some { kind := 0x61#8, tag := tag, body := body }
  | .doorResume tag body => some { kind := 0x62#8, tag := tag, body := body }
  | .getDoor tag body => some { kind := 0x63#8, tag := tag, body := body }
  | .changeoverEnd _ => none
  | .watchLanes tag body => some { kind := 0x70#8, tag := tag, body := body }
  | .ackAlert tag body => some { kind := 0x71#8, tag := tag, body := body }
  | .getLane tag body => some { kind := 0x72#8, tag := tag, body := body }
  | .minuteTick => none
  | .waveBoundary => none
  | .endReached => none
  | .timeBaseSecond => none
  | .characterReceived _ => none
  | .receiveLineToMark => none
  | .frameSent => none

/-- The state `u` with `reply` handed over, R171 step 3. -/
def State.replying (u : State) (reply : Frame) : State := { u with link := u.link.deliver reply }

/-- The DONE reply to a request of kind `kind` is handed over, R172. -/
def State.replyDone (u : State) (kind tag : Byte) (result : List Byte) : State := u.replying (doneFrame kind tag result)

/-- The REFUSED reply is handed over, R172: nothing else changes. -/
def State.replyRefused (u : State) (kind tag : Byte) (c : RefusalCode) : State := u.replying (refusedFrame kind tag c)

/-- The state `u` with the floor `f`, after reports `notes` have joined the queue, R171, R174. -/
def State.withFloor (u : State) (f : Floor) (notes : List Report) : State :=
  { u with floor := f, link := u.link.joinAll notes }

/-- A report queued at the minute of `u`, R174. -/
def State.report (u : State) (object : Nat) (n : Note) : Report :=
  { minute := u.clock.minute, object := object, note := n, droppedBefore := 0 }

/-- What is left of the works of a minute after an event of the item `taken` that leaves the floor `f` (log 3): the item goes
on as `rest` where that still has something to do, and the others wait. -/
def State.workLeft (s : State) (f : Floor) (taken rest : WorkItem) : Work :=
  (({ s with floor := f } : State).toRun.afterEvent taken rest).work

/-! ## Bounds that hold in every run -/

/-- R10 for a deck map: W and M are the sums over its entries of weight and of weight times lever, and positions used counts
the positions that hold a pallet. -/
def Deck.totalsAgree (dk : Deck) (pr : Profile) (weight : Nat → Nat) : Bool :=
  dk.w == (dk.slots.map fun x => weight x.entry.ref).sum &&
    dk.m == (dk.slots.map fun x => weight x.entry.ref * pr.lever (rowOf x.pos)).sum &&
    dk.used == (dk.places.filter fun stk => !stk.isEmpty).length

/-- R10 for departure `d`, with the weights of its pallets and the levers of its profile. -/
def Floor.totalsAgree (f : Floor) (env : Env) (d : Nat) : Bool :=
  match env.profileOf d with
  | some pr => (f.deck d).totalsAgree pr fun ref => (f.pallet ref).weight
  | none => true

/-- R169: a length byte is at most 240 and the bytes taken do not pass what the length gives. -/
def Rx.within : Rx → Bool
  | .hunt => true
  | .header got => decide (got.length ≤ 2) && (got.head?.all fun c => decide (c.toNat ≤ Config.maxBody))
  | .body length _ _ got => decide (length.toNat ≤ Config.maxBody) && decide (got.length < length.toNat + 2)

/-- The sizes and ranges of R169, R170, R174 to R176: at most 4 frames of at most 240 body bytes, at most 64 reports, counts
to 65535. -/
def Link.within (l : Link) : Bool :=
  l.rx.within && decide (l.buffer.length ≤ Config.bufferSize) && l.buffer.all (fun f => bodyFits f.body) &&
    decide (l.reports.length ≤ Config.reportQueueSize) && decide (l.framingErrors ≤ Config.countMax) &&
    decide (l.droppedRequests ≤ Config.countMax) && decide (l.droppedReports ≤ Config.countMax) &&
    decide (l.pendingDrops ≤ Config.countMax)

/-- An item is still to be taken. -/
def Work.holds (w : Work) (i : WorkItem) : Bool := w.started == some i || w.waiting.contains i

/-- The ranges of R153, and that minute 1440 is the clock's end (R156): at it, an open night has reached its end or its
END_REACHED is still to be taken. -/
def State.clockWithin (s : State) : Bool :=
  decide (s.clock.second ≤ 59) && decide (s.clock.minute ≤ Config.lastMinute) &&
    decide (s.clock.lastBoundary ≤ Config.lastMinute) && decide (s.clock.wave ≤ s.clock.lastBoundary) &&
    (decide (s.clock.minute < Config.lastMinute) || !s.clock.isOpen || s.clock.endReached || s.work.holds .endOfClock)

def ActivePlan.tablesRise (p : ActivePlan) : Bool :=
  p.profiles.wf && p.doors.wf && p.lanes.wf && p.departures.wf && p.routes.wf

def Shadow.tablesRise (p : Shadow) : Bool :=
  p.profiles.wf && p.doors.wf && p.lanes.wf && p.departures.wf && p.routes.wf

def Floor.tablesRise (f : Floor) : Bool :=
  f.pallets.wf && f.tips.wf && f.decks.wf && f.departures.wf && f.doors.wf && f.lanes.wf && f.tasks.wf &&
    f.queues.wf && f.movers.wf

/-- Every table has its canonical form: one cell for each number, in rising order. -/
def State.tablesRise (s : State) : Bool :=
  s.plan.active.tablesRise && s.plan.shadow.tablesRise && s.floor.tablesRise

/-- R55: no two live records have one label. -/
def Floor.labelsDiffer (f : Floor) : Bool := !hasRepeat (f.pallets.cells.map (·.2.label))

/-- R92, R95, R97, R101, R110: the pool's size; each queue holds QUEUED tasks of its level, each once; the order of issue
holds ISSUED tasks, each once; every task stands where its state says; a BUSY mover's task names the mover. -/
def Floor.poolAgrees (f : Floor) : Bool :=
  decide (f.tasks.size ≤ Config.poolSize) &&
    (f.queues.cells.all fun q => !hasRepeat q.2 &&
      q.2.all fun id => (f.tasks.get id).any fun t => !t.isIssued && t.level == q.1) &&
    !hasRepeat f.issued && (f.issued.all fun id => (f.tasks.get id).any Task.isIssued) &&
    (f.tasks.cells.all fun c =>
      match c.2.mover with
      | none => (f.queue c.2.level).contains c.1
      | some m => f.issued.contains c.1 && c.2.lastMover == some m) &&
    f.movers.cells.all fun c =>
      match c.2.state with
      | .busy id => (f.tasks.get id).any fun t => t.mover == some c.1
      | .off => true
      | .idle => true

end Sys2Proof.Machine
end

