-- ==== Sys2Proof/Certificates/Slice0/Obligations.lean ====
section
/-! DEFINITION. The statements for the provers, one `Prop` each. `s.taken f = some u` says that request handling can take
the frame `f` in `s` (log 1), and that `u` is the state in which it handles it; `u.replyDone k tag result` is `u` with the
DONE reply handed over. The layout of result bytes that no rule fixes is the model's choice (log 8). -/

open Sys2Proof Sys2Proof.Machine

/-! ## The queue -/

/-- A step takes the command at the front of the queue and runs its meaning on the state with the queue's rest; with no
command waiting the part idles (the model's choices, log 2 and 29). -/
def Obligations.StepRunsFrontCommand : Prop :=
  (∀ (s : State) (c : Instr) (rest : List Instr), s.pending = c :: rest →
    step s = exec c { s with pending := rest }) ∧
  (∀ s : State, s.pending = [] → step s = .next s)

/-! ## Resets -/

/-- POWER_ON, RESET_PIN and LONG_BREAK give every block its full-reset values, R179; after LONG_BREAK the line is at space,
so the part waits for mark and takes no request. That POWER_ON and RESET_PIN find the line at mark, whatever it was doing,
is read from R167 and R179 (log 23, DEDUCED). The model's own queue and draw count stay (log 22). -/
def Obligations.FullResetGivesResetValues : Prop :=
  ∀ s : State,
    exec .powerOn s = .next { State.reset with draws := s.draws, pending := s.pending } ∧
    exec .resetPin s = exec .powerOn s ∧
    exec .longBreak s =
      .next { State.reset with
        link := { Link.reset with waitMark := true, heldInReset := true }
        draws := s.draws
        pending := s.pending }

/-- What the blocks hold after a full reset: R27, R54, R59, R60, R91, R116, R129, R152, R165, R179. -/
def Obligations.ResetValuesOfTheBlocks : Prop :=
  State.reset.clock = { isOpen := false, minute := 0, second := 0, endReached := false, wave := 0, lastBoundary := 0 } ∧
  State.reset.plan.active.night = { waveLength := 60, lateMargin := 15, taskLimit := 10 } ∧
  State.reset.plan.method = .boundary ∧ State.reset.plan.shadow.count = 0 ∧
  (∀ n, State.reset.plan.active.profiles.get n = none ∧ State.reset.plan.active.doors.get n = none ∧
    State.reset.plan.active.lanes.get n = none ∧ State.reset.plan.active.departures.get n = none ∧
    State.reset.plan.active.routes.get n = none) ∧
  (∀ n, State.reset.floor.pallets.get n = none ∧ State.reset.floor.departures.get n = none ∧
    State.reset.floor.tasks.get n = none ∧ State.reset.floor.queue n = [] ∧
    State.reset.floor.deck n = Deck.blank 0) ∧
  (∀ n, State.reset.floor.tip n = { origin := 0, expected := 0, scanned := 0, openMinute := 0 }) ∧
  (∀ n, State.reset.floor.door n = { underlying := .closed, faulted := false, condition := false, faultMinute := none }) ∧
  (∀ n, State.reset.plan.active.doorEntry n = { role := .closed, gap := 10, mode := .latched }) ∧
  (∀ n, State.reset.floor.lane n = { present := [], incoming := 0, high := none, low := none, alert := none } ∧
    State.reset.plan.active.capacity n = 0 ∧ State.reset.plan.active.binding n = none) ∧
  (∀ n, State.reset.floor.mover n = { state := .off, last := none }) ∧
  State.reset.floor.waiting = [] ∧ State.reset.floor.issued = [] ∧ State.reset.floor.backlog = [] ∧
  State.reset.floor.nextId = 1 ∧ State.reset.floor.dispatchHold = false ∧
  State.reset.link.gateOpen = true ∧ State.reset.link.replaceMode = false ∧ State.reset.link.rx = .hunt ∧
  State.reset.link.buffer = [] ∧ State.reset.link.inHand = none ∧ State.reset.link.slot = none ∧
  State.reset.link.tx = none ∧ State.reset.link.waitMark = false ∧ State.reset.link.heldInReset = false ∧
  State.reset.link.reports = [] ∧ State.reset.link.framingErrors = 0 ∧ State.reset.link.droppedRequests = 0 ∧
  State.reset.link.droppedReports = 0 ∧ State.reset.link.pendingDrops = 0

/-! ## The receive line -/

/-- BREAK, R178, resets the receiver alone, which waits for RECEIVE_LINE_TO_MARK and then hunts. STOP_BIT_ERROR and
INTER_CHARACTER_TIMEOUT, R167, R169: inside a frame the partial frame is dropped with one framing error, counted to 65535;
while hunting nothing happens. A stop bit error inside a frame also waits for mark. That BREAK itself counts nothing, inside
a frame too, is read from R167 and R178 (log 23, DEDUCED). -/
def Obligations.BreaksAndErrorsDropTheFrame : Prop :=
  ∀ s : State,
    exec .lineBreak s = .next { s with link := { s.link with rx := .hunt, waitMark := true } } ∧
    (∀ (t : State) (c : Byte), t.link.waitMark = true → exec (.characterReceived c) t = .next t) ∧
    exec .receiveLineToMark s = .next { s with link := { s.link with waitMark := false, heldInReset := false } } ∧
    (s.link.rx ≠ .hunt →
      exec .stopBitError s = .next { s with link := { s.link with
        rx := .hunt, waitMark := true, framingErrors := min 65535 (s.link.framingErrors + 1) } } ∧
      exec .interCharacterTimeout s = .next { s with link := { s.link with
        rx := .hunt, framingErrors := min 65535 (s.link.framingErrors + 1) } }) ∧
    (s.link.rx = .hunt → exec .stopBitError s = .next s ∧ exec .interCharacterTimeout s = .next s)

/-- CHARACTER_RECEIVED and FRAME_RECEIVED, R169, R170: nothing while the line is awaited; HUNT leaves at 0xA5 alone; a length
above 240 drops the frame and counts. With the last check byte `c` (which CHARACTER_RECEIVED takes too) a good frame joins
the buffer when fewer than 4 wait and is dropped and counted otherwise; a frame whose check differs is a framing error.
That FRAME_RECEIVED is the last byte's arrival alone is the model's choice (log 7). -/
def Obligations.ReceiverAssemblesFrames : Prop :=
  (∀ (s : State) (c : Byte),
    (s.link.waitMark = true → exec (.characterReceived c) s = .next s) ∧
    (s.link.waitMark = false → s.link.rx = .hunt → c ≠ 0xA5#8 → exec (.characterReceived c) s = .next s) ∧
    (s.link.waitMark = false → s.link.rx = .hunt → c = 0xA5#8 →
      exec (.characterReceived c) s = .next { s with link := { s.link with rx := .header [] } }) ∧
    (s.link.waitMark = false → s.link.rx = .header [] → 240 < c.toNat →
      exec (.characterReceived c) s = .next { s with link := { s.link with
        rx := .hunt, framingErrors := min 65535 (s.link.framingErrors + 1) } }) ∧
    (s.link.waitMark = false → s.link.rx = .header [] → c.toNat ≤ 240 →
      exec (.characterReceived c) s = .next { s with link := { s.link with rx := .header [c] } })) ∧
  (∀ (s : State) (length kind tag c : Byte) (got : List Byte),
    s.link.waitMark = false → s.link.rx = .body length kind tag got → got.length = length.toNat + 1 →
    ((got ++ [c]).drop length.toNat = checkBytes (length :: kind :: tag :: (got ++ [c]).take length.toNat) →
      (s.link.buffer.length < 4 →
        exec (.frameReceived c) s = .next { s with link := { s.link with
          rx := .hunt
          buffer := s.link.buffer ++ [{ kind := kind, tag := tag, body := (got ++ [c]).take length.toNat }] } }) ∧
      (4 ≤ s.link.buffer.length →
        exec (.frameReceived c) s = .next { s with link := { s.link with
          rx := .hunt, droppedRequests := min 65535 (s.link.droppedRequests + 1) } })) ∧
    ((got ++ [c]).drop length.toNat ≠ checkBytes (length :: kind :: tag :: (got ++ [c]).take length.toNat) →
      exec (.frameReceived c) s = .next { s with link := { s.link with
        rx := .hunt, framingErrors := min 65535 (s.link.framingErrors + 1) } }))

/-- Sending and receiving agree, R167 to R170, Table 10-1: the bytes of any frame of at most 240 body bytes, sent to a
hunting receiver, put exactly that frame at the tail of the buffer, or raise the dropped-requests count when 4 frames wait;
nothing else of the link changes. `Link.receive` is what CHARACTER_RECEIVED does. -/
def Obligations.FrameBytesAreReceivedWhole : Prop :=
  (∀ (s : State) (c : Byte), exec (.characterReceived c) s = .next { s with link := s.link.receive c }) ∧
  ∀ (f : Frame) (l : Link), f.body.length ≤ 240 → l.rx = .hunt → l.waitMark = false →
    (l.buffer.length < 4 → f.bytes.foldl Link.receive l = { l with buffer := l.buffer ++ [f] }) ∧
    (4 ≤ l.buffer.length →
      f.bytes.foldl Link.receive l = { l with droppedRequests := min 65535 (l.droppedRequests + 1) })

/-! ## The transmitter and the report queue -/

/-- REPLY_START, REPORT_START and FRAME_SENT, R173, R174, R176: a waiting reply is started before any report; a report only
with the gate open, no reply waiting and no request in hand, carrying the pending drop count, which returns to 0. -/
def Obligations.TransmitterStartsRepliesFirst : Prop :=
  ∀ s : State,
    (∀ f, s.link.tx = none → s.link.slot = some f →
      exec .replyStart s = .next { s with link := { s.link with
        tx := some f.bytes, slot := s.link.inHand, inHand := none } } ∧
      exec .reportStart s = .next s) ∧
    (∀ r rest, s.link.tx = none → s.link.slot = none → s.link.inHand = none → s.link.gateOpen = true →
      s.link.reports = r :: rest →
      exec .reportStart s = .next { s with link := { s.link with
        tx := some { r with droppedBefore := s.link.pendingDrops }.frame.bytes, reports := rest, pendingDrops := 0 } }) ∧
    (s.link.tx ≠ none ∨ s.link.gateOpen = false ∨ s.link.reports = [] → exec .reportStart s = .next s) ∧
    (s.link.tx ≠ none ∨ s.link.slot = none → exec .replyStart s = .next s) ∧
    exec .frameSent s = .next { s with link := { s.link with tx := none } }

/-- A report joins the tail of the queue, R174; at 64 records KEEP drops it and REPLACE drops the oldest, and both drop
counts rise, to 65535, R175. -/
def Obligations.ReportJoinsOrIsCounted : Prop :=
  ∀ (l : Link) (r : Report),
    (l.reports.length < 64 → l.join r = { l with reports := l.reports ++ [r] }) ∧
    (64 ≤ l.reports.length → l.replaceMode = false →
      l.join r = { l with
        droppedReports := min 65535 (l.droppedReports + 1), pendingDrops := min 65535 (l.pendingDrops + 1) }) ∧
    (64 ≤ l.reports.length → l.replaceMode = true →
      l.join r = { l with
        reports := l.reports.tail ++ [r]
        droppedReports := min 65535 (l.droppedReports + 1), pendingDrops := min 65535 (l.pendingDrops + 1) })

/-! ## Requests in general -/

/-- Every request that is taken gets exactly one reply with its own kind and tag, R171, R172: REFUSED, and then nothing else
changes, or DONE, handed over last; receiver, buffer and transmitter are not touched by its handling. A request command
whose frame request handling cannot take now changes nothing (the model's choice, log 1). -/
def Obligations.EveryRequestTakenGetsOneReply : Prop :=
  (∀ (i : Instr) (s u : State) (f : Frame), i.wellFormed = true → requestFrame i = some f → s.taken f = some u →
    (∃ c, exec i s = .next (u.replyRefused f.kind f.tag c)) ∨
    (∃ (result : List Byte) (after : State), exec i s = .next (after.replyDone f.kind f.tag result) ∧
      after.pending = u.pending ∧ after.link.rx = u.link.rx ∧ after.link.waitMark = u.link.waitMark ∧
      after.link.heldInReset = u.link.heldInReset ∧ after.link.buffer = u.link.buffer ∧
      after.link.inHand = u.link.inHand ∧ after.link.slot = u.link.slot ∧ after.link.tx = u.link.tx ∧
      after.link.framingErrors = u.link.framingErrors ∧ after.link.droppedRequests = u.link.droppedRequests)) ∧
  (∀ (i : Instr) (s : State) (f : Frame), requestFrame i = some f → s.taken f = none → exec i s = .next s)

/-- UNKNOWN_REQUEST_KIND, R171: a kind that Table 10-2 does not list is answered REFUSED with KIND and nothing else
changes. -/
def Obligations.UnknownKindIsRefusedWithKind : Prop :=
  ∀ (s u : State) (kind tag : Byte) (body : List Byte), kind ∉ requestKinds →
    s.taken { kind := kind, tag := tag, body := body } = some u →
    exec (.unknownRequestKind kind tag body) s = .next (u.replyRefused kind tag .kind)

/-- SET REPORTS, R177: FORMAT, RANGE, and otherwise gate and mode take the values given, in any night state; the reply has
the values before, the queue depth and the pending drop count. -/
def Obligations.SetReportsSetsGateAndMode : Prop :=
  ∀ (s u : State) (tag : Byte) (body : List Byte), s.taken { kind := 0x02#8, tag := tag, body := body } = some u →
    (body.length ≠ 2 → exec (.setReports tag body) s = .next (u.replyRefused 0x02#8 tag .format)) ∧
    (∀ g m : Byte, body = [g, m] → 1 < g.toNat ∨ 1 < m.toNat →
      exec (.setReports tag body) s = .next (u.replyRefused 0x02#8 tag .range)) ∧
    (∀ g m : Bool, body = flag8 g ++ flag8 m →
      exec (.setReports tag body) s =
        .next ({ u with link := { u.link with gateOpen := g, replaceMode := m } }.replyDone 0x02#8 tag
          (flag8 u.link.gateOpen ++ flag8 u.link.replaceMode ++ le8 u.link.reports.length ++
            le16 u.link.pendingDrops)))

/-! ## The night -/

/-- NIGHT OPEN, R160: with a body FORMAT, in an open night NIGHT; otherwise the clock starts at minute 0 with all its fields
cleared, and no plan entry stays pending. -/
def Obligations.NightOpenStartsTheClock : Prop :=
  ∀ (s u : State) (tag : Byte) (body : List Byte), s.taken { kind := 0x10#8, tag := tag, body := body } = some u →
    (body ≠ [] → exec (.nightOpen tag body) s = .next (u.replyRefused 0x10#8 tag .format)) ∧
    (body = [] → u.clock.isOpen = true → exec (.nightOpen tag body) s = .next (u.replyRefused 0x10#8 tag .night)) ∧
    (body = [] → u.clock.isOpen = false →
      ∃ (result : List Byte) (after : State), exec (.nightOpen tag body) s = .next (after.replyDone 0x10#8 tag result) ∧
        after.clock =
          { isOpen := true, minute := 0, second := 0, endReached := false, wave := 0, lastBoundary := 0 } ∧
        after.plan.shadow.count = 0 ∧ after.plan.method = u.plan.method ∧ after.pending = u.pending)

/-- NIGHT OPEN of a hub with no live pallet, no pending entry and no event due at minute 0, R160 step 3, R54, R129: every
departure of the plan is PLANNED with an empty deck map of its profile, the waiting list is empty, every door has the
state of its role, stays FAULTED only over a set condition and keeps its fault minute, tips and movers are cleared; pallets,
lanes, pool, queues, issue order, backlog and dispatch hold are as they were. The carry-over, pending entries and events due
at minute 0 are left out here. -/
def Obligations.NightOpenReadiesTheBlocks : Prop :=
  ∀ (s u : State) (tag : Byte), s.taken { kind := 0x10#8, tag := tag, body := [] } = some u →
    u.clock.isOpen = false → u.plan.shadow.count = 0 → u.floor.pallets = .empty →
    (∀ c ∈ u.plan.active.departures.cells, 0 < c.2.call ∧ u.plan.active.night.lateMargin < c.2.cut) →
    ∃ after : State, exec (.nightOpen tag []) s =
        .next (after.replyDone 0x10#8 tag
          ([0#8, 0#8, 0#8, 0#8] ++ le8 u.plan.active.departures.size ++ [0#8, 0#8, 0#8, 0#8, 0#8, 0#8])) ∧
      after.link = u.link ∧ after.plan.active = u.plan.active ∧
      (∀ d e, u.plan.active.departures.get d = some e →
        after.floor.departures.get d = some (Departure.fresh .planned) ∧
        after.floor.deck d = Deck.blank (2 * ((u.plan.active.profiles.get e.profile).map (·.rows)).getD 0)) ∧
      (∀ n, 1 ≤ n → n ≤ 32 →
        (after.floor.door n).underlying =
          (match (u.plan.active.doorEntry n).role with
            | .closed => .closed
            | .inbound => .inboundFree
            | .outbound => .outboundFree) ∧
        (after.floor.door n).faulted = (u.floor.door n).condition ∧
        (after.floor.door n).condition = (u.floor.door n).condition ∧
        (after.floor.door n).faultMinute = (u.floor.door n).faultMinute) ∧
      after.floor.waiting = [] ∧ after.floor.issued = u.floor.issued ∧
      (∀ n, after.floor.tip n = Tip.clear) ∧ (∀ m, after.floor.mover m = Mover.reset) ∧
      after.floor.pallets = u.floor.pallets ∧ after.floor.lanes = u.floor.lanes ∧ after.floor.tasks = u.floor.tasks ∧
      after.floor.queues = u.floor.queues ∧ after.floor.backlog = u.floor.backlog ∧
      after.floor.nextId = u.floor.nextId ∧ after.floor.dispatchHold = u.floor.dispatchHold

/-- NIGHT CLOSE, R162, R163, R51, R59, R90, R97, R116, R129: the pool, its queues and the backlog are empty, every mover is
OFF, every lane is empty with no alert, every record left is HELD at location 1, and the clock stands still, the night
CLOSED; the plan is as it was. Every departure of the plan is CLOSED; one that was not has its depart minute, its flags
clear and its deck map empty. No door is TIPPING or in CHANGEOVER, a door that such a departure held is OUTBOUND-FREE, no
door has become OCCUPIED, and every fault is kept. Where every departure is CLOSED already, or CUT with all its entries
LOADED, the records are exactly these: those aboard a CUT departure are freed, and of the others those EXCEPTION, MISSING,
or IN TRANSIT with an exception reason; all others are kept, HELD at location 1. In a closed night it is refused with
NIGHT. -/
def Obligations.NightCloseClearsTheNight : Prop :=
  ∀ (s u : State) (tag : Byte), s.taken { kind := 0x11#8, tag := tag, body := [] } = some u →
    (u.clock.isOpen = false → exec (.nightClose tag []) s = .next (u.replyRefused 0x11#8 tag .night)) ∧
    (u.clock.isOpen = true →
      ∃ (result : List Byte) (after : State), exec (.nightClose tag []) s = .next (after.replyDone 0x11#8 tag result) ∧
        after.clock = { u.clock with isOpen := false } ∧ after.plan = u.plan ∧ after.pending = u.pending ∧
        after.floor.tasks = .empty ∧ (∀ level, after.floor.queue level = []) ∧ after.floor.issued = [] ∧
        after.floor.backlog = [] ∧ (∀ m, (after.floor.mover m).state = .off) ∧
        (∀ l, (after.floor.lane l).present = [] ∧ (after.floor.lane l).incoming = 0 ∧
          (after.floor.lane l).alert = none) ∧
        (∀ c ∈ after.floor.pallets.cells, c.2.state = .held ∧ c.2.loc = some (.floor 1)) ∧
        (∀ d, u.plan.active.departures.has d = true → (after.floor.departure d).state = .closed ∧
          ((u.floor.departure d).state ≠ .closed →
            (after.floor.departure d).departMinute = some u.clock.minute ∧ (after.floor.departure d).hold = false ∧
            (after.floor.departure d).stalled = false ∧ (after.floor.departure d).doorTaken = false ∧
            after.floor.deck d = Deck.blank (u.floor.deck d).places.length)) ∧
        (∀ n, (after.floor.door n).underlying ≠ .tipping ∧ (∀ m, (after.floor.door n).underlying ≠ .changeover m) ∧
          (∀ d, (after.floor.door n).underlying = .occupied d → (u.floor.door n).underlying = .occupied d) ∧
          (after.floor.door n).faulted = (u.floor.door n).faulted ∧
          (after.floor.door n).condition = (u.floor.door n).condition ∧
          (after.floor.door n).faultMinute = (u.floor.door n).faultMinute) ∧
        (∀ d e, u.plan.active.departures.get d = some e → (u.floor.departure d).state ≠ .closed →
          (u.floor.departure d).doorTaken = true → (after.floor.door e.door).underlying = .outboundFree) ∧
        (u.floor.pallets.wf = true →
          (∀ d, u.plan.active.departures.has d = true → (u.floor.departure d).state = .closed ∨
            (u.floor.departure d).state = .cut ∧ ∀ x ∈ (u.floor.deck d).slots, x.entry.status = .loaded) →
          ∀ ref p, u.floor.pallets.get ref = some p →
            ((∃ d, u.plan.active.departures.has d = true ∧ (u.floor.departure d).state = .cut ∧
              ∃ x ∈ (u.floor.deck d).slots, x.entry.ref = ref) → after.floor.pallets.get ref = none) ∧
            ((∀ d, u.plan.active.departures.has d = true → (u.floor.departure d).state = .cut →
              ∀ x ∈ (u.floor.deck d).slots, x.entry.ref ≠ ref) →
              (p.state = .exception ∨ p.state = .missing ∨ (p.state = .inTransit ∧ p.reason ≠ none) →
                after.floor.pallets.get ref = none) ∧
              (p.state ≠ .exception → p.state ≠ .missing → (p.state = .inTransit → p.reason = none) →
                after.floor.pallets.get ref = some { p with state := .held, loc := some (.floor 1) }))))

/-- CLOCK SYNC, R157, R159: for a minute and second in range, a step of at most 30 minutes and an open night whose end is
not reached, the clock stands at the minute and second given and all work of the step is done; a step of 0 or backward
changes neither wave number nor last boundary minute nor end reached. The second's one byte, in body and reply, is the
model's choice (log 8). What a forward step does (R158) and the FORMAT of other bodies are left out here. -/
def Obligations.ClockSyncSetsTheClock : Prop :=
  ∀ (s u : State) (tag : Byte) (minute second : Nat),
    s.taken { kind := 0x12#8, tag := tag, body := le16 minute ++ le8 second } = some u →
    minute ≤ 1440 → second ≤ 59 → (minute = 1440 → second = 0) →
    (u.clock.isOpen = false →
      exec (.clockSync tag (le16 minute ++ le8 second)) s = .next (u.replyRefused 0x12#8 tag .night)) ∧
    (u.clock.isOpen = true → u.clock.endReached = true →
      exec (.clockSync tag (le16 minute ++ le8 second)) s = .next (u.replyRefused 0x12#8 tag .state)) ∧
    (u.clock.isOpen = true → u.clock.endReached = false →
      minute + 30 < u.clock.minute ∨ u.clock.minute + 30 < minute →
      exec (.clockSync tag (le16 minute ++ le8 second)) s = .next (u.replyRefused 0x12#8 tag .range)) ∧
    (u.clock.isOpen = true → u.clock.endReached = false → minute ≤ u.clock.minute + 30 → u.clock.minute ≤ minute + 30 →
      ∃ (result : List Byte) (after : State),
        exec (.clockSync tag (le16 minute ++ le8 second)) s = .next (after.replyDone 0x12#8 tag result) ∧
        after.clock.isOpen = true ∧ after.clock.minute = minute ∧ after.clock.second = second ∧
        after.work = .clear ∧ after.pending = u.pending ∧
        result.take 3 = le16 u.clock.minute ++ le8 u.clock.second ∧
        (minute ≤ u.clock.minute → after.clock.wave = u.clock.wave ∧
          after.clock.lastBoundary = u.clock.lastBoundary ∧ after.clock.endReached = false))

/-- MINUTE_TICK and TIME_BASE_SECOND, R153, R154. While the clock runs a tick raises the minute by one, returns the second
count to 0 and hands the minute's work to the blocks; the floor is not yet touched (log 3). Handed over is: departure
control's examination where some departure has a due event; the ISSUED tasks whose time has run out, in order of issue,
where there are any; the ends of changeovers where one has come; the boundary test where the minutes since the last tick
hold a boundary; the clock's end at minute 1440. A second only counts until the count would pass 59, when it is a tick
(log 6). While the clock does not run nothing happens. Work of an earlier tick is completed first (log 3). -/
def Obligations.TicksAndSecondsMoveTheClock : Prop :=
  (∀ (s : State) (r : Run) (items : List WorkItem), s.work = .clear →
    r = { s.toRun with clock := { s.clock with minute := s.clock.minute + 1, second := 0 } } →
    items = [.departures, .expiry (s.floor.expired r.env), .doors, .wave s.clock.minute] ++
      (if s.clock.minute + 1 = 1440 then [.endOfClock] else []) →
    (s.clock.isOpen = true → s.clock.endReached = false →
      exec .minuteTick s = .next { s with
        clock := { s.clock with minute := s.clock.minute + 1, second := 0 }
        work := { started := none, waiting := r.liveItems items } } ∧
      (s.clock.second < 59 →
        exec .timeBaseSecond s = .next { s with clock := { s.clock with second := s.clock.second + 1 } }) ∧
      (59 ≤ s.clock.second →
        exec .timeBaseSecond s = .next { s with
          clock := { s.clock with minute := s.clock.minute + 1, second := 0 }
          work := (s.toRun.tick).work } ∧ exec .minuteTick s = exec .timeBaseSecond s)) ∧
    (s.clock.isOpen = false ∨ s.clock.endReached = true →
      exec .minuteTick s = .next s ∧ exec .timeBaseSecond s = .next s)) ∧
  (∀ (r : Run) (items : List WorkItem) (ids : List Nat) (since : Nat),
    (WorkItem.departures ∈ r.liveItems items ↔ WorkItem.departures ∈ items ∧
      ∃ d ∈ r.plan.active.departures.keys, r.yard.nextDue r.env d ≠ none) ∧
    (WorkItem.expiry ids ∈ r.liveItems items ↔ WorkItem.expiry ids ∈ items ∧ ids ≠ []) ∧
    (WorkItem.doors ∈ r.liveItems items ↔ WorkItem.doors ∈ items ∧
      ∃ n ∈ r.yard.doors.keys, r.yard.changeoverDue r.clock.minute n = true) ∧
    (WorkItem.syncUpdate ∉ items → (WorkItem.wave since ∈ r.liveItems items ↔ WorkItem.wave since ∈ items ∧
      ∃ m, r.boundaryDue since = some m)) ∧
    (WorkItem.endOfClock ∈ r.liveItems items ↔ WorkItem.endOfClock ∈ items)) ∧
  (∀ (f : Floor) (env : Env) (id : Nat), id ∈ f.expired env ↔ id ∈ f.issued ∧
    ∃ t m, f.tasks.get id = some t ∧ t.issueMinute = some m ∧ m + env.plan.night.taskLimit ≤ env.minute) ∧
  (∀ s : State, exec .minuteTick s = exec .minuteTick s.settled ∧
    exec .timeBaseSecond s = exec .timeBaseSecond s.settled ∧ s.settled.work = .clear)

/-- WAVE_BOUNDARY, R155: where the tick has handed over a boundary of minute `m`, the wave number rises by one, the last
boundary minute is `m` and a WAVE NOTE is queued; with a method that makes no update point and no door FAULTED, that is
all. END_REACHED, R156, R30: end reached is set, the second count stays at 0, and the end-of-clock cut-off leaves every
departure of the plan CUT or CLOSED; the night stays OPEN and the plan as it was. With every deck empty of a single
departure in the plan, that is its cut-off with its note. Each takes its own work alone off the work handed over. That these
are commands of their own, after the tick, is the model's choice (log 3), and so is that a cut-off, which sets the call
mark, keeps the called minute as it was, absent where no call was made (R28; log 33). The methods that make an update point
at a boundary, and a FAULTED door there, are left out here. -/
def Obligations.BoundariesAndTheEndAreTaken : Prop :=
  (∀ (s : State) (since m : Nat), s.work.started = none →
    s.work.boundarySince = some since →
    s.toRun.boundaryDue since = some m → s.plan.method = .immediate ∨ s.plan.method = .sync →
    (∀ n, (s.floor.door n).faulted = false) →
    exec .waveBoundary s =
      .next { s.withFloor s.floor
          [s.report (s.clock.wave + 1) (.wave m s.plan.active.night.waveLength)] with
        clock := { s.clock with wave := s.clock.wave + 1, lastBoundary := m }
        work := { started := none, waiting := s.work.waiting.filter (· ≠ .wave since) } }) ∧
  (∀ (s : State) (y : Yard), s.toRun.mayTake .endOfClock = true → y = s.toRun.yard.endCutOff s.toRun.env →
    exec .endReached s = .next { s.withFloor y.toFloor y.notes with
      clock := { s.clock with endReached := true, second := 0 }
      work := { started := none, waiting := s.work.waiting.filter (· ≠ .endOfClock) } } ∧
    (∀ d r, s.plan.active.departures.has d = true → s.floor.departures.get d = some r →
      (y.departure d).state = if r.state = .closed then .closed else .cut) ∧
    (∀ d e r n, s.plan.active.departures.cells = [(d, e)] → s.floor.departures.get d = some r →
      r.state ≠ .cut → r.state ≠ .closed → s.floor.deck d = Deck.blank n →
      y = { s.floor with
        waiting := s.floor.waiting.filter (· ≠ d)
        departures := y.departures
        notes := [s.report d (.departure (.cut 0) 0 0 0)] } ∧
      y.departures.get d = some { r with
        callMark := true, marginMark := true, cutMark := true, stalled := false, removedAtCut := 0, state := .cut } ∧
      ∀ k, k ≠ d → y.departures.get k = s.floor.departures.get k))

/-! ## The plan store -/

/-- SET NIGHT to SET ROUTE in an open night under another method than IMMEDIATE, R131, R132: the entry that the body spells
(R133 to R136) becomes its object's pending entry, and nothing else changes. A body of SET NIGHT, SET DOOR or SET LANE
spells an entry exactly where its fields are in the ranges of R133. A body that spells none is refused with RANGE, one of
another length with FORMAT. The widths of the fields, and so these lengths, and the zeros that the reply has where no update
point was made are the model's choice (log 8). -/
def Obligations.PlanWritesWaitInTheShadow : Prop :=
  (∀ (s u w : State) (tag : Byte) (body result : List Byte) (e : PlanEntry),
    u.clock.isOpen = true → u.plan.method ≠ .immediate →
    w = { u with plan := { u.plan with shadow := u.plan.shadow.write e } } →
    result = flag8 (u.plan.shadow.pendingFor e) ++ List.replicate 7 0#8 ++ le16 w.plan.shadow.count →
    (body.length = 3 → readNight body = some e → s.taken { kind := 0x20#8, tag := tag, body := body } = some u →
      exec (.setNight tag body) s = .next (w.replyDone 0x20#8 tag result)) ∧
    (body.length = 41 → readProfile body = some e → s.taken { kind := 0x21#8, tag := tag, body := body } = some u →
      exec (.setProfile tag body) s = .next (w.replyDone 0x21#8 tag result)) ∧
    (body.length = 4 → readDoor body = some e → s.taken { kind := 0x22#8, tag := tag, body := body } = some u →
      exec (.setDoor tag body) s = .next (w.replyDone 0x22#8 tag result)) ∧
    (body.length = 2 → readLane body = some e → s.taken { kind := 0x23#8, tag := tag, body := body } = some u →
      exec (.setLane tag body) s = .next (w.replyDone 0x23#8 tag result)) ∧
    (body.length = 17 → readDeparture body = some e → s.taken { kind := 0x24#8, tag := tag, body := body } = some u →
      exec (.setDeparture tag body) s = .next (w.replyDone 0x24#8 tag result)) ∧
    (routeLength body = true → readRoute body = some e → s.taken { kind := 0x25#8, tag := tag, body := body } = some u →
      exec (.setRoute tag body) s = .next (w.replyDone 0x25#8 tag result))) ∧
  (∀ w m t : Byte, readNight [w, m, t] =
    if 15 ≤ w.toNat ∧ w.toNat ≤ 120 ∧ m.toNat ≤ 60 ∧ 1 ≤ t.toNat ∧ t.toNat ≤ 60 then
      some (.night { waveLength := w.toNat, lateMargin := m.toNat, taskLimit := t.toNat })
    else none) ∧
  (∀ l c : Byte, readLane [l, c] =
    if 2 ≤ l.toNat ∧ l.toNat ≤ 65 ∧ 1 ≤ c.toNat ∧ c.toNat ≤ 40 then some (.lane l.toNat c.toNat) else none) ∧
  (∀ (d r g m : Byte), (readDoor [d, r, g, m]).isSome = true ↔
    1 ≤ d.toNat ∧ d.toNat ≤ 32 ∧ r.toNat ≤ 2 ∧ g.toNat ≤ 60 ∧ m.toNat ≤ 1) ∧
  (∀ (s u : State) (tag : Byte) (body : List Byte),
    (s.taken { kind := 0x20#8, tag := tag, body := body } = some u →
      (body.length ≠ 3 → exec (.setNight tag body) s = .next (u.replyRefused 0x20#8 tag .format)) ∧
      (body.length = 3 → readNight body = none → exec (.setNight tag body) s = .next (u.replyRefused 0x20#8 tag .range))) ∧
    (s.taken { kind := 0x21#8, tag := tag, body := body } = some u →
      (body.length ≠ 41 → exec (.setProfile tag body) s = .next (u.replyRefused 0x21#8 tag .format)) ∧
      (body.length = 41 → readProfile body = none → exec (.setProfile tag body) s = .next (u.replyRefused 0x21#8 tag .range))) ∧
    (s.taken { kind := 0x22#8, tag := tag, body := body } = some u →
      (body.length ≠ 4 → exec (.setDoor tag body) s = .next (u.replyRefused 0x22#8 tag .format)) ∧
      (body.length = 4 → readDoor body = none → exec (.setDoor tag body) s = .next (u.replyRefused 0x22#8 tag .range))) ∧
    (s.taken { kind := 0x23#8, tag := tag, body := body } = some u →
      (body.length ≠ 2 → exec (.setLane tag body) s = .next (u.replyRefused 0x23#8 tag .format)) ∧
      (body.length = 2 → readLane body = none → exec (.setLane tag body) s = .next (u.replyRefused 0x23#8 tag .range))) ∧
    (s.taken { kind := 0x24#8, tag := tag, body := body } = some u →
      (body.length ≠ 17 → exec (.setDeparture tag body) s = .next (u.replyRefused 0x24#8 tag .format)) ∧
      (body.length = 17 → readDeparture body = none → exec (.setDeparture tag body) s = .next (u.replyRefused 0x24#8 tag .range))) ∧
    (s.taken { kind := 0x25#8, tag := tag, body := body } = some u →
      (routeLength body = false → exec (.setRoute tag body) s = .next (u.replyRefused 0x25#8 tag .format)) ∧
      (routeLength body = true → readRoute body = none → exec (.setRoute tag body) s = .next (u.replyRefused 0x25#8 tag .range))))

/-- SET NIGHT to SET ROUTE while the night is CLOSED, R132, R138, R141 to R150: an entry that differs from the active one
and meets no ground for rejection is applied at once under cause WRITE with its PLAN NOTE. A profile sizes the empty decks of
the departures that name it; a door that is not busy takes the state of a new role; a lane's high limit is lowered to the
capacity; a new departure gets a record CLOSED and an empty deck map; a withdrawal takes both away; a route without
departures is withdrawn. No departure waits (R163). The outcome code 1 for APPLIED, the reply's layout and the widths of the
bodies are the model's choice (log 8). -/
def Obligations.PlanWritesApplyWhileClosed : Prop :=
  ∀ (s u : State) (tag : Byte) (body : List Byte) (a : ActivePlan) (reply : List Byte), u.clock.isOpen = false →
    u.plan.shadow = Shadow.empty → u.plan.active = a →
    reply = [0#8, 1#8, 1#8, 0#8, 1#8, 0#8, 0#8, 0#8, 0#8, 0#8] →
    (∀ e, body.length = 3 → readNight body = some (.night e) →
      s.taken { kind := 0x20#8, tag := tag, body := body } = some u →
      exec (.setNight tag body) s =
        .next ({ u.withFloor u.floor [u.report 0 (.plan .night .write false none)] with
            plan := { u.plan with active := { a with night := e } } }.replyDone 0x20#8 tag reply)) ∧
    (∀ n e, body.length = 41 → readProfile body = some (.profile n e) → a.profiles.get n ≠ some e →
      a.departures.wf = true →
      (∀ c x, a.departures.get c = some x → x.profile = n →
        (u.floor.deck c).isEmpty = true ∧ (x.drop2 = none ∨ x.split < e.rows)) →
      s.taken { kind := 0x21#8, tag := tag, body := body } = some u →
      ∃ f : Floor, exec (.setProfile tag body) s =
          .next ({ u.withFloor f [u.report n (.plan .profile .write false none)] with
            plan := { u.plan with active := { a with profiles := a.profiles.put n e } } }.replyDone 0x21#8 tag reply) ∧
        (∀ c x, a.departures.get c = some x → x.profile = n → f.deck c = Deck.blank (2 * e.rows)) ∧
        (∀ c, (∀ x, a.departures.get c = some x → x.profile ≠ n) → f.deck c = u.floor.deck c) ∧
        { u.floor with decks := f.decks } = f) ∧
    (∀ n e, body.length = 4 → readDoor body = some (.door n e) → a.doors.get n ≠ some e →
      (u.floor.door n).underlying.isBusy = false → u.floor.waiting = [] →
      s.taken { kind := 0x22#8, tag := tag, body := body } = some u →
      exec (.setDoor tag body) s =
        .next ({ u.withFloor { u.floor with
              doors := if e.role = (a.doorEntry n).role then u.floor.doors
                else u.floor.doors.set Door.reset n { u.floor.door n with underlying := e.role.underlying } }
            [u.report n (.plan .door .write false none)] with
          plan := { u.plan with active := { a with doors := a.doors.put n e } } }.replyDone 0x22#8 tag reply)) ∧
    (∀ n c, body.length = 2 → readLane body = some (.lane n c) → a.lanes.get n = none →
      u.floor.occupancy n ≤ c → (u.floor.lane n).high = none →
      s.taken { kind := 0x23#8, tag := tag, body := body } = some u →
      ∃ after : State, exec (.setLane tag body) s = .next (after.replyDone 0x23#8 tag reply) ∧
        after.plan = { u.plan with active := { a with lanes := a.lanes.put n c } } ∧
        (∀ l, after.floor.lane l = u.floor.lane l) ∧
        after.link = u.link.join (u.report n (.plan .lane .write false none)) ∧ after.clock = u.clock) ∧
    (∀ n c, body.length = 2 → readLane body = some (.lane n c) → a.lanes.get n ≠ some c → u.floor.occupancy n ≤ c →
      s.taken { kind := 0x23#8, tag := tag, body := body } = some u →
      exec (.setLane tag body) s =
        .next ({ u.withFloor { u.floor with
              lanes := u.floor.lanes.set Lane.reset n
                { u.floor.lane n with high := (u.floor.lane n).high.map fun h => min h c } }
            [u.report n (.plan .lane .write false none)] with
          plan := { u.plan with active := { a with lanes := a.lanes.put n c } } }.replyDone 0x23#8 tag reply)) ∧
    (∀ n (e : DepartureEntry) pr, body.length = 17 → readDeparture body = some (.departure n (.entry e)) →
      a.departures.get n = none → a.profiles.get e.profile = some pr → a.doors.has e.door = true →
      (∀ l ∈ e.lanes, a.lanes.has l = true ∧ ∀ b, a.binding l = some b → b.1 = n) → e.lanes.Nodup → e.call < e.cut →
      e.drop2 = none ∨ e.split < pr.rows →
      s.taken { kind := 0x24#8, tag := tag, body := body } = some u →
      exec (.setDeparture tag body) s =
        .next ({ u.withFloor { u.floor with
              departures := u.floor.departures.put n (Departure.fresh .closed)
              decks := u.floor.decks.put n (Deck.blank (2 * pr.rows)) }
            [u.report n (.plan .departure .write false none)] with
          plan := { u.plan with active := { a with departures := a.departures.put n e } } }.replyDone 0x24#8 tag
            reply)) ∧
    (∀ n, body.length = 17 → readDeparture body = some (.departure n .withdraw) → a.departures.has n = true →
      (u.floor.departure n).state = .closed →
      s.taken { kind := 0x24#8, tag := tag, body := body } = some u →
      exec (.setDeparture tag body) s =
        .next ({ u.withFloor { u.floor with
              departures := u.floor.departures.erase n, decks := u.floor.decks.erase n }
            [u.report n (.plan .departure .write true none)] with
          plan := { u.plan with active := { a with departures := a.departures.erase n } } }.replyDone 0x24#8 tag
            reply)) ∧
    (∀ n list, routeLength body = true → readRoute body = some (.route n list) → a.routes.get n ≠ some list →
      (∀ d ∈ list, ∃ x, a.departures.get d = some x ∧ (x.drop1 = n ∨ x.drop2 = some n)) →
      s.taken { kind := 0x25#8, tag := tag, body := body } = some u →
      exec (.setRoute tag body) s =
        .next ({ u.withFloor u.floor [u.report n (.plan .route .write false none)] with
          plan := { u.plan with active := { a with
            routes := if list = [] then a.routes.erase n else a.routes.put n list } } }.replyDone 0x25#8 tag reply))

/-- An update point takes every pending entry, in the order of R141, and applies or rejects each; afterwards none is
pending, and method and clock are as they were, R131, R138. -/
def Obligations.UpdatePointTakesEveryEntry : Prop :=
  ∀ (r : Run) (cause : UpdateCause),
    (r.updatePoint cause).1.map (·.1) = r.plan.shadow.entries ∧
    (r.updatePoint cause).1.applied + (r.updatePoint cause).1.rejected = r.plan.shadow.count ∧
    (r.updatePoint cause).2.plan.shadow.count = 0 ∧
    (r.updatePoint cause).2.plan.method = r.plan.method ∧ (r.updatePoint cause).2.clock = r.clock

/-- A rejected entry changes nothing but for its PLAN NOTE, and so does one that repeats the active entry, which is not
rejected, R141, R150 (for a route whose departures are gone this is the model's choice, log 17); a lane entry that is no
repeat is rejected exactly when its capacity lies below the occupancy, R145. -/
def Obligations.RejectedEntriesChangeNothing : Prop :=
  (∀ (r : Run) (cause : UpdateCause) (e : PlanEntry),
    (rejectEntry r.plan.active r.clock.isOpen r.yard.toFloor e).isSome = true ∨ r.plan.active.repeats e = true →
    (r.takeEntry cause e).plan = r.plan ∧ (r.takeEntry cause e).yard.toFloor = r.yard.toFloor ∧
    (r.takeEntry cause e).clock = r.clock ∧ (r.takeEntry cause e).yard.notes.length = r.yard.notes.length + 1) ∧
  (∀ (p : ActivePlan) (o : Bool) (f : Floor) (e : PlanEntry), p.repeats e = true → rejectEntry p o f e = none) ∧
  (∀ (p : ActivePlan) (o : Bool) (f : Floor) (n c : Nat), p.lanes.get n ≠ some c →
    (rejectEntry p o f (.lane n c) = some .laneOccupancy ↔ c < f.occupancy n))

/-- SET METHOD, R137: FORMAT, RANGE, and otherwise the new method is in force at once and the pending entries stay
pending; the reply has the method before. -/
def Obligations.SetMethodIsInForceAtOnce : Prop :=
  ∀ (s u : State) (tag : Byte) (body : List Byte), s.taken { kind := 0x26#8, tag := tag, body := body } = some u →
    (body.length ≠ 1 → exec (.setMethod tag body) s = .next (u.replyRefused 0x26#8 tag .format)) ∧
    (∀ c : Byte, body = [c] → 3 < c.toNat → exec (.setMethod tag body) s = .next (u.replyRefused 0x26#8 tag .range)) ∧
    (∀ m : UpdateMethod, body = le8 m.code →
      exec (.setMethod tag body) s =
        .next ({ u with plan := { u.plan with method := m } }.replyDone 0x26#8 tag (le8 u.plan.method.code)))

/-- ACTIVATE, R139: under any method and in any night state the update point of 7.4 is made, and the reply has the number of
entries applied, the number rejected and the shadow-pending count, 0; with an empty shadow nothing changes. With a body it
is refused with FORMAT. -/
def Obligations.ActivateMakesAnUpdatePoint : Prop :=
  ∀ (s u : State) (tag : Byte) (body : List Byte), s.taken { kind := 0x27#8, tag := tag, body := body } = some u →
    (body ≠ [] → exec (.activate tag body) s = .next (u.replyRefused 0x27#8 tag .format)) ∧
    (∀ (o : Outcomes) (r : Run), body = [] → u.toRun.updatePoint .activate = (o, r) →
      exec (.activate tag body) s =
        .next ((u.absorb r).replyDone 0x27#8 tag (le16 o.applied ++ le16 o.rejected ++ [0#8, 0#8])) ∧
      r.plan.shadow.count = 0 ∧ o.applied + o.rejected = u.plan.shadow.count ∧
      (u.plan.shadow = Shadow.empty →
        exec (.activate tag body) s = .next (u.replyDone 0x27#8 tag [0#8, 0#8, 0#8, 0#8, 0#8, 0#8])))

/-- STATUS, R180, answers with the summary, 70 bytes that begin with night state, night minute, wave number, end reached and
the number of live pallet records, and refuses a body with FORMAT. The six GET requests, R52, R76, R89, R115, R128, R151:
on an object that is known each answers DONE, its reply beginning with the value named. None changes anything else. The
presence byte 1 with which the GET PLAN reply begins is the model's choice (log 8). GET PLAN of the five other kinds and the
refusals of the GET requests are left out here. -/
def Obligations.StatusAndGetRequestsOnlyRead : Prop :=
  (∀ (s u : State) (tag : Byte) (body : List Byte), s.taken { kind := 0x01#8, tag := tag, body := body } = some u →
    (body = [] → exec (.status tag body) s = .next (u.replyDone 0x01#8 tag u.statusBytes)) ∧
    (body ≠ [] → exec (.status tag body) s = .next (u.replyRefused 0x01#8 tag .format)) ∧
    u.statusBytes.length = 70 ∧
    u.statusBytes.take 8 =
      flag8 u.clock.isOpen ++ le16 u.clock.minute ++ le16 u.clock.wave ++ flag8 u.clock.endReached ++
        le16 u.floor.pallets.size) ∧
  (∀ (s u : State) (tag : Byte),
    (∀ kind n : Byte, s.taken { kind := 0x28#8, tag := tag, body := [kind, n] } = some u → kind = 0#8 → n = 0#8 →
      ∃ result : List Byte, exec (.getPlan tag [kind, n]) s = .next (u.replyDone 0x28#8 tag result) ∧
        result.take 4 = 1#8 :: u.plan.active.night.bytes) ∧
    (∀ (body : List Byte) (ref : Nat), s.taken { kind := 0x35#8, tag := tag, body := body } = some u →
      body.length = 4 → u.floor.refOf (u32 body 0) = some ref →
      ∃ result : List Byte, exec (.getPallet tag body) s = .next (u.replyDone 0x35#8 tag result) ∧
        result.take 4 = le32 (u.floor.pallet ref).label) ∧
    (∀ (body : List Byte) (t : Task), s.taken { kind := 0x47#8, tag := tag, body := body } = some u →
      body.length = 2 → u.floor.tasks.get (u16 body 0) = some t →
      ∃ result : List Byte, exec (.getTask tag body) s = .next (u.replyDone 0x47#8 tag result) ∧
        result.take 4 = le16 (u16 body 0) ++ le8 t.kind.code ++ le8 t.level) ∧
    (∀ d : Byte, s.taken { kind := 0x57#8, tag := tag, body := [d] } = some u → 1 ≤ d.toNat → d.toNat ≤ 48 →
      u.plan.active.departures.has d.toNat = true →
      ∃ result : List Byte, exec (.getDeparture tag [d]) s = .next (u.replyDone 0x57#8 tag result) ∧
        result.take 1 = le8 (u.floor.departure d.toNat).state.code) ∧
    (∀ n : Byte, s.taken { kind := 0x63#8, tag := tag, body := [n] } = some u → 1 ≤ n.toNat → n.toNat ≤ 32 →
      ∃ result : List Byte, exec (.getDoor tag [n]) s = .next (u.replyDone 0x63#8 tag result) ∧
        result.take 2 = flag8 (u.plan.active.doors.has n.toNat) ++ le8 (u.plan.active.doorEntry n.toNat).role.code) ∧
    (∀ l : Byte, s.taken { kind := 0x72#8, tag := tag, body := [l] } = some u → 2 ≤ l.toNat → l.toNat ≤ 65 →
      u.plan.active.lanes.has l.toNat = true →
      ∃ result : List Byte, exec (.getLane tag [l]) s = .next (u.replyDone 0x72#8 tag result) ∧
        result.take 1 = le8 (u.plan.active.capacity l.toNat)))

/-! ## Intake -/

/-- TIP OPEN, R60, R120: at a door INBOUND-FREE and not faulted in an open night, the door is TIPPING and its tip record is
written with the expected count clamped to 255; elsewhere it is refused with STATE. Nothing else changes. -/
def Obligations.TipOpenStartsATip : Prop :=
  ∀ (s u : State) (tag n origin : Byte) (expected : Nat),
    s.taken { kind := 0x30#8, tag := tag, body := [n, origin] ++ le16 expected } = some u →
    1 ≤ n.toNat → n.toNat ≤ 32 → 1 ≤ origin.toNat → origin.toNat ≤ 254 → expected ≤ 65535 → u.clock.isOpen = true →
    ((u.floor.door n.toNat).underlying = .inboundFree → (u.floor.door n.toNat).faulted = false →
      exec (.tipOpen tag ([n, origin] ++ le16 expected)) s =
        .next ((u.withFloor { u.floor with
            doors := u.floor.doors.set Door.reset n.toNat { u.floor.door n.toNat with underlying := .tipping }
            tips := u.floor.tips.set Tip.clear n.toNat
              { origin := origin.toNat, expected := min 255 expected, scanned := 0, openMinute := u.clock.minute } }
          []).replyDone 0x30#8 tag (le16 (min 255 expected)))) ∧
    ((u.floor.door n.toNat).underlying ≠ .inboundFree ∨ (u.floor.door n.toNat).faulted = true →
      exec (.tipOpen tag ([n, origin] ++ le16 expected)) s = .next (u.replyRefused 0x30#8 tag .state))

/-- TIP CLOSE, R61: the door, faulted or not, is INBOUND-FREE underneath, its tip record stays, and a TIP NOTE is queued
exactly where the counts differ. The two bytes of the expected count in the reply are the model's choice (log 8). -/
def Obligations.TipCloseReportsADifference : Prop :=
  ∀ (s u : State) (tag n : Byte), s.taken { kind := 0x32#8, tag := tag, body := [n] } = some u →
    1 ≤ n.toNat → n.toNat ≤ 32 → u.clock.isOpen = true →
    ((u.floor.door n.toNat).underlying = .tipping →
      ∀ t : Tip, u.floor.tip n.toNat = t →
        exec (.tipClose tag [n]) s =
          .next ((u.withFloor { u.floor with
              doors := u.floor.doors.set Door.reset n.toNat { u.floor.door n.toNat with underlying := .inboundFree } }
            (if t.scanned = t.expected then []
              else [u.report n.toNat (.tip (decide (t.expected < t.scanned)) t.origin t.expected t.scanned)])).replyDone
            0x32#8 tag (le8 t.origin ++ le16 t.expected ++ le16 t.scanned))) ∧
    ((u.floor.door n.toNat).underlying ≠ .tipping →
      exec (.tipClose tag [n]) s = .next (u.replyRefused 0x32#8 tag .state))

/-- PALLET IN of pieces at a tip, R62 to R69, R55, R93, in the order of the clauses. One piece marked damaged: a record in the
lowest free place, EXCEPTION with reason DAMAGED at the door, a RELOCATE task at level 0 to location 0, and the scanned
count one higher; no departure, lane or report is touched. One piece that passes validation, of a label that is not live or,
REVIVED with its consignment kept, of a MISSING one: where the first departure of its route is PLANNED and serves it with a
lane and a position, PLACED with a lane, its entry on the deck, one more expected in the lane, AT DOOR on a TIP task of its
class's level; where that departure is LOADING with an empty deck, PLACED for loading from the door, and its entry RELEASED
at once with a DIRECT task (R35, R36); where no departure takes it, HELD at the door with a RELOCATE task at level 0 to
location 1. Several damaged pieces share one task, in label order; the moves of a request are grouped by lane, hold and bay,
each group in label order and the groups in order of their lowest label (R68). -/
def Obligations.DamagedPieceGoesToTheExceptionBay : Prop :=
  (∀ (s u : State) (tag : Byte) (body : List Byte) (sc : Scan),
    s.taken { kind := 0x31#8, tag := tag, body := body } = some u →
    body.length = 16 → u8 body 9 = 0 → readScan body = some sc → sc.pieces = 1 → sc.damaged = true →
    u.clock.isOpen = true → (u.floor.door sc.door).underlying = .tipping → u.floor.refOf sc.first = none →
    u.floor.pallets.size < 4096 → u.floor.tasks.size < 1024 →
    ∀ ref, ref = lowestFree 0 u.floor.pallets.cells → u.floor.pallets.get ref = none →
    ∃ f : Floor, exec (.palletIn tag body) s =
        .next ((u.withFloor f []).replyDone 0x31#8 tag
          ([0#8, 1#8] ++ le32 sc.first ++ [4#8, 0#8, 0#8, 0#8, 0#8, 5#8] ++ le16 u.floor.allocId)) ∧
      f.pallets.get ref = some
        { label := sc.first, consignment := none, origin := (u.floor.tip sc.door).origin, dest := sc.dest, cls := sc.cls
          weight := sc.weight, height := sc.height, allowance := sc.allowance, state := .exception
          loc := some (.door sc.door), dep := none, slot := none, scanMinute := u.clock.minute
          reason := some .damaged } ∧
      (∀ r, r ≠ ref → f.pallets.get r = u.floor.pallets.get r) ∧
      f.tasks = u.floor.tasks.put u.floor.allocId
        (newTask .relocate 0 (.door sc.door) (.floor 0) [ref] 1 none) ∧
      f.queue 0 = u.floor.queue 0 ++ [u.floor.allocId] ∧ (∀ level, level ≠ 0 → f.queue level = u.floor.queue level) ∧
      f.tip sc.door = { u.floor.tip sc.door with scanned := min 65535 ((u.floor.tip sc.door).scanned + 1) } ∧
      (∀ n, n ≠ sc.door → f.tip n = u.floor.tip n) ∧
      f.decks = u.floor.decks ∧ f.departures = u.floor.departures ∧ f.waiting = u.floor.waiting ∧
      f.doors = u.floor.doors ∧ f.lanes = u.floor.lanes ∧ f.issued = u.floor.issued ∧ f.backlog = u.floor.backlog ∧
      f.movers = u.floor.movers ∧ f.dispatchHold = u.floor.dispatchHold) ∧
  (∀ (s u : State) (tag : Byte) (body : List Byte) (sc : Scan) (ref flag : Nat) (cons : Option Nat) (p : Pallet) (y : Yard)
      (tips : Tab Tip),
    s.taken { kind := 0x31#8, tag := tag, body := body } = some u →
    body.length = 16 → u8 body 9 = 0 → readScan body = some sc → sc.pieces = 1 → sc.damaged = false →
    u.clock.isOpen = true → (u.floor.door sc.door).underlying = .tipping → u.floor.tasks.size < 1024 →
    1 ≤ sc.weight → sc.weight ≤ 1500 → 10 ≤ sc.height → sc.height ≤ 300 → sc.dest ≠ 0 → sc.dest ≠ 255 →
    (u.floor.refOf sc.first = none ∧ u.floor.pallets.size < 4096 ∧ ref = lowestFree 0 u.floor.pallets.cells ∧
        u.floor.pallets.get ref = none ∧ cons = none ∧ flag = 0 ∨
      u.floor.refOf sc.first = some ref ∧ flag = 1 ∧
        ∃ q, u.floor.pallets.get ref = some q ∧ q.label = sc.first ∧ q.state = .missing ∧ q.consignment = cons) →
    p = { label := sc.first, consignment := cons, origin := (u.floor.tip sc.door).origin, dest := sc.dest, cls := sc.cls
          weight := sc.weight, height := sc.height, allowance := sc.allowance, state := .atDoor
          loc := some (.door sc.door), dep := none, slot := none, scanMinute := u.clock.minute, reason := none } →
    y = { u.floor with pallets := u.floor.pallets.put ref p, notes := [] } →
    tips = u.floor.tips.set Tip.clear sc.door
      { u.floor.tip sc.door with scanned := min 65535 ((u.floor.tip sc.door).scanned + 1) } →
    (∀ d rest e pr l pos tier, u.plan.active.routes.get sc.dest = some (d :: rest) →
      u.plan.active.departures.get d = some e → u.plan.active.profiles.get e.profile = some pr →
      (u.floor.departure d).state = .planned → sc.dest = e.drop1 ∨ e.drop2 = some sc.dest →
      u.floor.chooseLane u.toRun.env e sc.dest = some l → (u.floor.lane l).high = none →
      y.findPlace u.toRun.env d ref = some pos → tier = ((u.floor.deck d).stackAt pos).length + 1 →
      ∃ f : Floor, exec (.palletIn tag body) s =
          .next ((u.withFloor f []).replyDone 0x31#8 tag
            (le8 flag ++ [1#8] ++ le32 sc.first ++ [1#8] ++ le8 d ++ le8 pos ++ le8 tier ++ le8 l ++ [0#8] ++
              le16 u.floor.allocId)) ∧
        f.pallets.get ref = some { p with dep := some d, slot := some (pos, tier) } ∧
        (∀ k, k ≠ ref → f.pallets.get k = u.floor.pallets.get k) ∧
        (∀ k, f.departures.get k = u.floor.departures.get k) ∧
        { u.floor with
          pallets := f.pallets
          departures := f.departures
          tips := tips
          decks := u.floor.decks.put d
            ((u.floor.deck d).push pr pos { ref := ref, status := .planned } sc.weight)
          lanes := u.floor.lanes.set Lane.reset l
            { u.floor.lane l with incoming := (u.floor.lane l).incoming + 1 }
          tasks := u.floor.tasks.put u.floor.allocId
            (newTask .tip sc.cls.tipLevel (.door sc.door) (.floor l) [ref] 1 none)
          nextId := if 65535 ≤ u.floor.allocId then 1 else u.floor.allocId + 1
          queues := u.floor.queues.set [] sc.cls.tipLevel
            (u.floor.queue sc.cls.tipLevel ++ [u.floor.allocId]) } = f) ∧
    (∀ d rest e pr pos n level, u.plan.active.routes.get sc.dest = some (d :: rest) →
      u.plan.active.departures.get d = some e → u.plan.active.profiles.get e.profile = some pr →
      (u.floor.departure d).state = .loading → (u.floor.departure d).hold = false →
      sc.dest = e.drop1 ∨ e.drop2 = some sc.dest → u.floor.deck d = Deck.blank n → pos ≤ n → 1 ≤ e.batch →
      u.floor.carrier ref = none → u.floor.backlogOf ref = none →
      y.findPlace u.toRun.env d ref = some pos → level = (if (u.floor.departure d).marginMark then 6 else 5) →
      ∃ f : Floor, exec (.palletIn tag body) s =
          .next ((u.withFloor f []).replyDone 0x31#8 tag
            (le8 flag ++ [1#8] ++ le32 sc.first ++ [2#8] ++ le8 d ++ le8 pos ++ [1#8, 0#8, 0#8, 0#8, 0#8])) ∧
        f.pallets.get ref = some { p with dep := some d, slot := some (pos, 1) } ∧
        (∀ k, k ≠ ref → f.pallets.get k = u.floor.pallets.get k) ∧
        (∀ k, f.departures.get k = u.floor.departures.get k) ∧
        f.deck d = ((u.floor.deck d).push pr pos { ref := ref, status := .released } sc.weight) ∧
        (∀ k, k ≠ d → f.deck k = u.floor.deck k) ∧
        { u.floor with
          pallets := f.pallets
          departures := f.departures
          decks := f.decks
          tips := tips
          tasks := u.floor.tasks.put u.floor.allocId
            (newTask .direct level (.door sc.door) (.trailer d pos 1) [ref] 1 (some d))
          nextId := if 65535 ≤ u.floor.allocId then 1 else u.floor.allocId + 1
          queues := u.floor.queues.set [] level (u.floor.queue level ++ [u.floor.allocId]) } = f) ∧
    ((∃ d ∈ u.toRun.env.routeFor p none, u.plan.active.departures.has d = true) →
      (∀ d ∈ u.toRun.env.routeFor p none, y.candidate u.toRun.env (.door sc.door) d sc.dest = none ∨
        y.findPlace u.toRun.env d ref = none) →
      ∃ f : Floor, exec (.palletIn tag body) s =
          .next ((u.withFloor f []).replyDone 0x31#8 tag
            (le8 flag ++ [1#8] ++ le32 sc.first ++ [3#8, 0#8, 0#8, 0#8, 0#8, 0#8] ++ le16 u.floor.allocId)) ∧
        f.pallets.get ref = some { p with state := .held } ∧
        (∀ k, k ≠ ref → f.pallets.get k = u.floor.pallets.get k) ∧
        { u.floor with
          pallets := f.pallets
          tips := tips
          tasks := u.floor.tasks.put u.floor.allocId
            (newTask .relocate 0 (.door sc.door) (.floor 1) [ref] 1 none)
          nextId := if 65535 ≤ u.floor.allocId then 1 else u.floor.allocId + 1
          queues := u.floor.queues.set [] 0 (u.floor.queue 0 ++ [u.floor.allocId]) } = f)) ∧
  (∀ (s u : State) (tag : Byte) (body : List Byte) (sc : Scan),
    s.taken { kind := 0x31#8, tag := tag, body := body } = some u →
    body.length = 16 → u8 body 9 = 0 → readScan body = some sc → 1 < sc.pieces → sc.damaged = true →
    u.clock.isOpen = true → (u.floor.door sc.door).underlying = .tipping → u.floor.pallets.wf = true →
    (∀ k, k < sc.pieces → u.floor.refOf (sc.first + k) = none) → u.floor.pallets.size + sc.pieces ≤ 4096 →
    u.floor.tasks.size < 1024 →
    ∃ (f : Floor) (refs : List Nat), exec (.palletIn tag body) s =
        .next ((u.withFloor f []).replyDone 0x31#8 tag (le8 0 ++ le8 sc.pieces ++
          (List.range sc.pieces).flatMap fun k =>
            le32 (sc.first + k) ++ [4#8, 0#8, 0#8, 0#8, 0#8, 5#8] ++ le16 u.floor.allocId)) ∧
      refs.length = sc.pieces ∧ (∀ ref ∈ refs, u.floor.pallets.get ref = none) ∧
      (∀ k ref, refs[k]? = some ref → f.pallets.get ref = some
        { label := sc.first + k, consignment := some sc.first, origin := (u.floor.tip sc.door).origin, dest := sc.dest
          cls := sc.cls, weight := sc.weight, height := sc.height, allowance := sc.allowance, state := .exception
          loc := some (.door sc.door), dep := none, slot := none, scanMinute := u.clock.minute
          reason := some .damaged }) ∧
      (∀ k, k ∉ refs → f.pallets.get k = u.floor.pallets.get k) ∧
      { u.floor with
        pallets := f.pallets
        tips := u.floor.tips.set Tip.clear sc.door
          { u.floor.tip sc.door with scanned := min 65535 ((u.floor.tip sc.door).scanned + sc.pieces) }
        tasks := u.floor.tasks.put u.floor.allocId
          (newTask .relocate 0 (.door sc.door) (.floor 0) refs sc.pieces none)
        nextId := if 65535 ≤ u.floor.allocId then 1 else u.floor.allocId + 1
        queues := u.floor.queues.set [] 0 (u.floor.queue 0 ++ [u.floor.allocId]) } = f) ∧
  (∀ (fates : List (Nat × Fate)) (x : Nat × Fate),
    ((groupMoves fates).map (·.1)).Nodup ∧
    (∀ k refs, (k, refs) ∈ groupMoves fates ↔
      refs ≠ [] ∧ refs = (fates.filter fun z => z.2.move = some k).map (·.1)) ∧
    (groupMoves (fates ++ [x])).map (·.1) = (groupMoves fates).map (·.1) ++
      (x.2.move.toList.filter fun k => k ∉ (groupMoves fates).map (·.1)))

/-- PALLET IN of a live label, R62, R63: one piece whose record is not MISSING is answered RESCAN with state, location and
departure, and nothing changes; several pieces, one of them live, are refused with DUPLICATE; at a door that does not tip
every scan is refused with STATE. -/
def Obligations.RescanAndDuplicateChangeNothing : Prop :=
  ∀ (s u : State) (tag : Byte) (body : List Byte) (sc : Scan),
    s.taken { kind := 0x31#8, tag := tag, body := body } = some u →
    body.length = 16 → u8 body 9 = 0 → readScan body = some sc → u.clock.isOpen = true →
    ((u.floor.door sc.door).underlying ≠ .tipping →
      exec (.palletIn tag body) s = .next (u.replyRefused 0x31#8 tag .state)) ∧
    ((u.floor.door sc.door).underlying = .tipping →
      (∀ ref, sc.pieces = 1 → u.floor.refOf sc.first = some ref → (u.floor.pallet ref).state ≠ .missing →
        exec (.palletIn tag body) s =
          .next (u.replyDone 0x31#8 tag ([2#8] ++ le8 (u.floor.pallet ref).state.code ++
            optLocBytes (u.floor.pallet ref).loc ++ opt8 (u.floor.pallet ref).dep))) ∧
      (∀ k, sc.pieces ≠ 1 → k < sc.pieces → (u.floor.refOf (sc.first + k)).isSome = true →
        exec (.palletIn tag body) s = .next (u.replyRefused 0x31#8 tag .duplicate)))

/-- BUMP PALLET of a pallet IN LANE that stands on top of its stack on a PLANNED departure and that no task carries, R74,
R19, R71: its entry leaves the deck, the pallet is HELD without departure, and a RELOCATE task at level 1 takes it from the
lane, whose present list it keeps. Nothing else changes and no report is queued. -/
def Obligations.BumpedPalletIsHeldInItsLane : Prop :=
  ∀ (s u : State) (tag : Byte) (body : List Byte) (ref l d pos tier : Nat) (p : Pallet) (e : DepartureEntry) (pr : Profile),
    s.taken { kind := 0x33#8, tag := tag, body := body } = some u → body.length = 4 → u.clock.isOpen = true →
    u.floor.refOf (u32 body 0) = some ref → u.floor.pallets.get ref = some p → p.state = .inLane →
    p.loc = some (.floor l) → 2 ≤ l → p.dep = some d → p.slot = some (pos, tier) →
    u.plan.active.departures.get d = some e → u.plan.active.profiles.get e.profile = some pr →
    (u.floor.departure d).state = .planned → ((u.floor.deck d).stackAt pos).length = tier →
    u.floor.carrier ref = none → u.floor.backlogOf ref = none → u.floor.tasks.size < 1024 →
    ∃ f : Floor, exec (.bumpPallet tag body) s =
        .next ((u.withFloor f []).replyDone 0x33#8 tag (le8 6 ++ le16 u.floor.allocId ++ le8 0)) ∧
      f.pallets.get ref = some { p with state := .held, dep := none, slot := none } ∧
      (∀ r, r ≠ ref → f.pallets.get r = u.floor.pallets.get r) ∧
      f.decks = u.floor.decks.put d ((u.floor.deck d).pull pr pos ref p.weight) ∧
      f.tasks = u.floor.tasks.put u.floor.allocId (newTask .relocate 1 (.floor l) (.floor 1) [ref] 1 none) ∧
      f.queue 1 = u.floor.queue 1 ++ [u.floor.allocId] ∧ (∀ level, level ≠ 1 → f.queue level = u.floor.queue level) ∧
      f.tips = u.floor.tips ∧ f.departures = u.floor.departures ∧ f.waiting = u.floor.waiting ∧
      f.doors = u.floor.doors ∧ f.lanes = u.floor.lanes ∧ f.issued = u.floor.issued ∧ f.backlog = u.floor.backlog ∧
      f.movers = u.floor.movers ∧ f.dispatchHold = u.floor.dispatchHold

/-- RELEASE PALLET, R75: a HELD, EXCEPTION or MISSING record that no task carries and that stands in no lane is freed, in
any night state; in every other state it is refused with STATE, and for a label that is not live with UNKNOWN. That a task
whose moved pallets the record was among loses one from lifts done and lifts total (`Task.forget`) is the model's choice
(log 11). A pallet on a RELOCATE task or in a lane, and the FORMAT of other bodies, are left out here. -/
def Obligations.ReleasePalletFreesTheRecord : Prop :=
  ∀ (s u : State) (tag : Byte) (body : List Byte), s.taken { kind := 0x34#8, tag := tag, body := body } = some u →
    body.length = 4 →
    (u.floor.refOf (u32 body 0) = none →
      exec (.releasePallet tag body) s = .next (u.replyRefused 0x34#8 tag .unknown)) ∧
    (∀ ref, u.floor.refOf (u32 body 0) = some ref →
      ((u.floor.pallet ref).state ≠ .held → (u.floor.pallet ref).state ≠ .exception →
        (u.floor.pallet ref).state ≠ .missing →
        exec (.releasePallet tag body) s = .next (u.replyRefused 0x34#8 tag .state)) ∧
      ((u.floor.pallet ref).state = .held ∨ (u.floor.pallet ref).state = .exception ∨
          (u.floor.pallet ref).state = .missing →
        u.floor.carrier ref = none → (∀ l, (u.floor.pallet ref).loc = some (.floor l) → l < 2) →
        exec (.releasePallet tag body) s =
          .next ((u.withFloor { u.floor with
              pallets := u.floor.pallets.erase ref
              backlog := u.floor.backlog.filter fun b => b.pallet ≠ ref
              tasks := ⟨u.floor.tasks.cells.map fun c => (c.1, c.2.forget ref)⟩ } []).replyDone 0x34#8 tag
            (le32 (u.floor.pallet ref).label ++ le8 (u.floor.pallet ref).state.code ++
              le8 (((u.floor.pallet ref).reason.map (·.code)).getD 0)))))

/-! ## Placement and lanes -/

/-- The trailer check, R13, with the totals that a placement leaves, R18: W, M, K and B of the departure with the pallet
aboard, each limit compared. -/
def Obligations.TrailerCheckComparesTheThreeLimits : Prop :=
  (∀ (pr : Profile) (w m weight row : Nat),
    trailerCheck pr w m weight row = true ↔
      w + weight ≤ pr.payload ∧ (m + weight * pr.lever row) / 1000 ≤ pr.kingpin ∧
      ((w + weight : Nat) : Int) - ((m + weight * pr.lever row) / 1000 : Nat) ≤ pr.bogie) ∧
  (∀ (dk : Deck) (pr : Profile) (pos : Nat) (e : Entry) (weight : Nat),
    (dk.push pr pos e weight).w = dk.w + weight ∧
    (dk.push pr pos e weight).m = dk.m + weight * pr.lever ((pos + 1) / 2))

/-- The stack check on a stack that is not empty, R11: the tiers, the clear height, and for every pallet of the stack its
allowance against all that would stand above it. On an empty position only the height counts, R12. -/
def Obligations.StackCheckBearsEveryPallet : Prop :=
  (∀ (pr : Profile) (stk : List Load) (n : Load), stk ≠ [] →
    (stackCheck pr stk n = true ↔
      stk.length < pr.tiers ∧ (stk.map (·.height)).sum + n.height ≤ pr.clearHeight ∧
      ∀ (i : Nat) (x : Load), stk[i]? = some x →
        ((stk.drop (i + 1)).map (·.weight)).sum + n.weight ≤ x.allowance)) ∧
  (∀ (pr : Profile) (n : Load), stackCheck pr [] n = true ↔ n.height ≤ pr.clearHeight)

/-- A placement search chooses a legal position, R3, R4, R9, R15 to R17: in the region of the pallet's destination, after
the closed line, out of the tail reserve while the departure has no door, with both checks passed; and the placement there
(R18) keeps the departure's totals within the three limits of its profile. It fails only where no position is legal. Of the
legal positions it takes the first in class order, from the tail for PRIORITY and TIMED and from the nose otherwise, among
those that hold a pallet, and only where there is none of these among the empty ones. Every change of an entry keeps the
totals of every deck what R10 says, as the weights and levers of its entries give them: a placement, a removal (R19), a load
status (R7) and a lift onto the trailer (R8). -/
def Obligations.PlacementIsLegalAndKeepsTheLimits : Prop :=
  (∀ (y : Yard) (env : Env) (d ref pos : Nat), y.findPlace env d ref = some pos →
    ∃ e pr lo hi, env.depEntry d = some e ∧ env.profileOf d = some pr ∧
      (y.departure d).state.searchable = true ∧ (y.pallet ref).slot = none ∧
      e.region pr.rows (y.pallet ref).dest = some (lo, hi) ∧ lo ≤ pos ∧ pos ≤ hi ∧
      (y.deck d).closedLine < rowOf pos ∧
      ((y.departure d).state = .planned ∨ (y.departure d).state = .waitingDoor → e.inReserve pr.rows pos = false) ∧
      stackCheck pr (((y.deck d).stackAt pos).map fun x => (y.pallet x.ref).toLoad) (y.pallet ref).toLoad = true ∧
      ((y.place env d ref pos).deck d).w = (y.deck d).w + (y.pallet ref).weight ∧
      ((y.place env d ref pos).deck d).w ≤ pr.payload ∧ ((y.place env d ref pos).deck d).k ≤ pr.kingpin ∧
      ((y.place env d ref pos).deck d).b ≤ pr.bogie) ∧
  (∀ (y : Yard) (env : Env) (d ref lo hi : Nat) (e : DepartureEntry) (pr : Profile) (legal : Nat → Prop)
      (sooner : Nat → Nat → Prop), env.depEntry d = some e → env.profileOf d = some pr →
    (y.departure d).state ≠ .cut → (y.departure d).state ≠ .closed → (y.pallet ref).slot = none →
    e.region pr.rows (y.pallet ref).dest = some (lo, hi) →
    (∀ q, legal q ↔ lo ≤ q ∧ q ≤ hi ∧ (y.deck d).closedLine < rowOf q ∧
      ((y.departure d).state = .planned ∨ (y.departure d).state = .waitingDoor → e.inReserve pr.rows q = false) ∧
      stackCheck pr (((y.deck d).stackAt q).map fun x => (y.pallet x.ref).toLoad) (y.pallet ref).toLoad = true ∧
      trailerCheck pr (y.deck d).w (y.deck d).m (y.pallet ref).weight (rowOf q) = true) →
    (∀ q p, sooner q p ↔
      if (y.pallet ref).cls = .priority ∨ (y.pallet ref).cls = .timed then p < q else q < p) →
    (y.findPlace env d ref = none ↔ ∀ q, ¬ legal q) ∧
    (∀ pos, y.findPlace env d ref = some pos → legal pos ∧
      ((y.deck d).stackAt pos ≠ [] → ∀ q, legal q → (y.deck d).stackAt q ≠ [] → ¬ sooner q pos) ∧
      ((y.deck d).stackAt pos = [] → ∀ q, legal q → (y.deck d).stackAt q = [] ∧ ¬ sooner q pos))) ∧
  (∀ (y : Yard) (env : Env), (∀ d, y.totalsAgree env d = true) →
    (∀ d ref pos k, 1 ≤ pos → pos ≤ (y.deck d).places.length → (y.place env d ref pos).totalsAgree env k = true) ∧
    (∀ d ref pos k, 1 ≤ pos → (((y.deck d).stackAt pos).filter fun x => x.ref = ref).length = 1 →
      (y.pullEntry env d ref pos).totalsAgree env k = true) ∧
    (∀ d ref src dst k, (y.shiftStatus d ref src dst).totalsAgree env k = true) ∧
    (∀ d ref k, (y.loadEntry d ref).totalsAgree env k = true))

/-- The lane chosen, R84, and the place reserved in it, R81, R82: a lane of the destination's drop with room, the primary
where that has room; one more pallet is expected in it, still within its capacity, and no other lane changes. No lane is
chosen only where none of them has room. A pallet that arrives where it is expected leaves the occupancy as it was, a place
given up and a pallet that leaves do not raise it, so that a lane within its capacity stays so (R82). -/
def Obligations.ChosenLaneHasRoomForThePallet : Prop :=
  (∀ (y : Yard) (env : Env) (e : DepartureEntry) (dest l : Nat), y.chooseLane env e dest = some l →
    l ∈ e.dropLanes dest ∧ y.occupancy l < env.plan.capacity l ∧
    (∀ p rest, e.dropLanes dest = p :: rest → y.occupancy p < env.plan.capacity p → l = p) ∧
    (y.laneExpect l).occupancy l = y.occupancy l + 1 ∧ (y.laneExpect l).occupancy l ≤ env.plan.capacity l ∧
    (∀ m, m ≠ l → (y.laneExpect l).lane m = y.lane m)) ∧
  (∀ (y : Yard) (env : Env) (e : DepartureEntry) (dest : Nat), y.chooseLane env e dest = none ↔
    ∀ l ∈ e.dropLanes dest, env.plan.capacity l ≤ y.occupancy l) ∧
  (∀ (y : Yard) (l ref m : Nat),
    (0 < (y.lane l).incoming → (y.laneArrive l ref).occupancy m = y.occupancy m) ∧
    (y.laneUnexpect l).occupancy m ≤ y.occupancy m ∧ (y.laneLeave l ref).occupancy m ≤ y.occupancy m)

/-! ## Movers and tasks -/

/-- MOVER ON, R98: FORMAT, RANGE, NIGHT, STATE, and otherwise the mover is IDLE, its last task in the reply; it takes no
task. -/
def Obligations.MoverOnMakesTheMoverIdle : Prop :=
  ∀ (s u : State) (tag : Byte) (body : List Byte), s.taken { kind := 0x40#8, tag := tag, body := body } = some u →
    (body.length ≠ 1 → exec (.moverOn tag body) s = .next (u.replyRefused 0x40#8 tag .format)) ∧
    (∀ m : Byte, body = [m] →
      (m.toNat < 1 ∨ 24 < m.toNat → exec (.moverOn tag body) s = .next (u.replyRefused 0x40#8 tag .range)) ∧
      (1 ≤ m.toNat → m.toNat ≤ 24 →
        (u.clock.isOpen = false → exec (.moverOn tag body) s = .next (u.replyRefused 0x40#8 tag .night)) ∧
        (u.clock.isOpen = true →
          ((u.floor.mover m.toNat).state ≠ .off →
            exec (.moverOn tag body) s = .next (u.replyRefused 0x40#8 tag .state)) ∧
          ((u.floor.mover m.toNat).state = .off →
            exec (.moverOn tag body) s =
              .next ((u.withFloor { u.floor with
                    movers := u.floor.movers.set Mover.reset m.toNat
                      { state := .idle, last := (u.floor.mover m.toNat).last } } []).replyDone 0x40#8 tag
                (le16 ((u.floor.mover m.toNat).last.getD 0)))))))

/-- MOVER OFF, R99, R111: an IDLE mover becomes OFF; from a BUSY one a POSTED task returns to the tail of the queue of its
own level with its mark clear and its lifts, last mover and issue minute kept, and is the mover's last task. -/
def Obligations.MoverOffReturnsItsTask : Prop :=
  ∀ (s u : State) (tag m : Byte), s.taken { kind := 0x41#8, tag := tag, body := [m] } = some u →
    1 ≤ m.toNat → m.toNat ≤ 24 → u.clock.isOpen = true →
    ((u.floor.mover m.toNat).state = .off → exec (.moverOff tag [m]) s = .next (u.replyRefused 0x41#8 tag .state)) ∧
    ((u.floor.mover m.toNat).state = .idle →
      exec (.moverOff tag [m]) s =
        .next ((u.withFloor { u.floor with
              movers := u.floor.movers.set Mover.reset m.toNat
                { state := .off, last := (u.floor.mover m.toNat).last } } []).replyDone 0x41#8 tag (le16 0))) ∧
    (∀ id t, (u.floor.mover m.toNat).state = .busy id → u.floor.tasks.get id = some t → t.mover = some m.toNat →
      t.kind = .posted → t.pallets = [] →
      ∃ f : Floor, exec (.moverOff tag [m]) s = .next ((u.withFloor f []).replyDone 0x41#8 tag (le16 id)) ∧
        f.mover m.toNat = { state := .off, last := some id } ∧
        (∀ k, k ≠ m.toNat → f.mover k = u.floor.mover k) ∧
        f.tasks.get id = some { t with mover := none, mark := false } ∧
        (∀ k, k ≠ id → f.tasks.get k = u.floor.tasks.get k) ∧
        f.queue t.level = (u.floor.queue t.level).filter (· ≠ id) ++ [id] ∧
        (∀ level, level ≠ t.level → f.queue level = u.floor.queue level) ∧
        f.issued = u.floor.issued.filter (· ≠ id) ∧
        { u.floor with movers := f.movers, tasks := f.tasks, queues := f.queues, issued := f.issued } = f)

/-- MOVER READY, R100, R101, R114: with no eligible task, and always under dispatch hold, NO WORK and no change; otherwise
the eligible task nearest the head of the highest level leaves its queue and is ISSUED to the mover, which is BUSY with it,
and the pallets still to move become IN TRANSIT or LOADING. The task taken stands in the highest level that holds an
eligible one, and nearest the head there (R100). A task is eligible (R96) where dispatch hold is off, no door that it starts
from or goes to, a departure's door included, is FAULTED, and, for a LOAD or DIRECT task, its departure's hold flag is clear
and the entry below in its stack is LOADED (R40). -/
def Obligations.MoverReadyIssuesOneTask : Prop :=
  (∀ (f : Floor) (env : Env),
    (∀ id, f.nextTask env = some id ↔ ∃ level pre post, level ≤ 7 ∧ f.queue level = pre ++ id :: post ∧
      f.eligible env id = true ∧ (∀ x ∈ pre, f.eligible env x = false) ∧
      ∀ l, level < l → l ≤ 7 → ∀ x ∈ f.queue l, f.eligible env x = false) ∧
    (f.nextTask env = none ↔ ∀ l, l ≤ 7 → ∀ x ∈ f.queue l, f.eligible env x = false) ∧
    (∀ id, f.eligible env id = true ↔ ∃ t, f.tasks.get id = some t ∧ f.dispatchHold = false ∧
      (∀ n, t.src = .door n → (f.door n).faulted = false) ∧
      (t.kind ≠ .load → t.kind ≠ .direct → ∀ n, t.dst = .door n → (f.door n).faulted = false) ∧
      (t.kind = .load ∨ t.kind = .direct →
        (∀ d e, t.dep = some d → env.plan.departures.get d = some e → (f.door e.door).faulted = false) ∧
        (∀ d, t.dep = some d → (f.departure d).hold = false) ∧
        (∀ d pos tier below, t.dst = .trailer d pos tier →
          (((f.deck d).stackAt pos).take (tier - 1)).getLast? = some below → below.status = .loaded)))) ∧
  ∀ (s u : State) (tag m : Byte), s.taken { kind := 0x42#8, tag := tag, body := [m] } = some u →
    1 ≤ m.toNat → m.toNat ≤ 24 → u.clock.isOpen = true → (u.floor.mover m.toNat).state = .idle →
    (u.floor.nextTask u.toRun.env = none ∨ u.floor.dispatchHold = true →
      exec (.moverReady tag [m]) s = .next (u.replyDone 0x42#8 tag [0#8])) ∧
    (∀ id t, u.floor.nextTask u.toRun.env = some id → u.floor.tasks.get id = some t →
      ∃ f : Floor, exec (.moverReady tag [m]) s =
          .next ((u.withFloor f []).replyDone 0x42#8 tag (u.floor.readyBytes u.toRun.env id t)) ∧
        f.tasks.get id = some { t with
          mover := some m.toNat, lastMover := some m.toNat, issueMinute := some u.clock.minute, mark := false } ∧
        (∀ k, k ≠ id → f.tasks.get k = u.floor.tasks.get k) ∧
        f.mover m.toNat = { state := .busy id, last := (u.floor.mover m.toNat).last } ∧
        (∀ k, k ≠ m.toNat → f.mover k = u.floor.mover k) ∧
        f.queue t.level = (u.floor.queue t.level).filter (· ≠ id) ∧
        (∀ level, level ≠ t.level → f.queue level = u.floor.queue level) ∧
        f.issued = u.floor.issued ++ [id] ∧
        (∀ ref p, ref ∈ t.unmoved → u.floor.pallets.get ref = some p →
          f.pallets.get ref = some { p with
            state := if t.kind = .load ∨ t.kind = .direct then .loading else .inTransit }) ∧
        (∀ ref, ref ∉ t.unmoved → f.pallets.get ref = u.floor.pallets.get ref) ∧
        { u.floor with
          movers := f.movers, tasks := f.tasks, queues := f.queues, issued := f.issued, pallets := f.pallets } = f)

/-- The acceptance table of TASK DONE and TASK FAIL, R102: case (a), case (b), STALE and STATE. -/
def Obligations.ReportsAreJudgedByTheTable : Prop :=
  ∀ (t : Task) (m : Nat),
    (t.mover = some m → t.judge m = .current) ∧
    (∀ k, t.mover = some k → k ≠ m → t.judge m = .refused .stale) ∧
    (t.mover = none → t.lastMover = none → t.judge m = .refused .state) ∧
    (∀ k, t.mover = none → t.lastMover = some k → k ≠ m → t.judge m = .refused .stale) ∧
    (t.mover = none → t.lastMover = some m → t.mark = true → t.judge m = .late) ∧
    (t.mover = none → t.lastMover = some m → t.mark = false → t.judge m = .refused .state)

/-- TASK DONE for a POSTED task, R102 to R105: n lifts are recorded, with LATE in case (b) and never MISMATCH; with lifts
remaining nothing else changes; with the last lift the task leaves pool, queue and issue order, and in case (a) its mover
is IDLE with it as its last task (creation backlog empty, no departure stalled). That the reply gives its labels, here
none, without a count is the model's choice (log 8). -/
def Obligations.TaskDoneRecordsLifts : Prop :=
  ∀ (s u : State) (tag m n : Byte) (id label : Nat) (t : Task) (late : Bool), id ≤ 65535 →
    s.taken { kind := 0x43#8, tag := tag, body := le16 id ++ [m, n] ++ le32 label } = some u →
    1 ≤ m.toNat → m.toNat ≤ 24 → u.clock.isOpen = true → u.floor.tasks.get id = some t →
    t.kind = .posted → t.pallets = [] → t.judge m.toNat = (if late then .late else .current) →
    (n.toNat = 0 ∨ t.remaining < n.toNat →
      exec (.taskDone tag (le16 id ++ [m, n] ++ le32 label)) s = .next (u.replyRefused 0x43#8 tag .range)) ∧
    (1 ≤ n.toNat → n.toNat < t.remaining →
      exec (.taskDone tag (le16 id ++ [m, n] ++ le32 label)) s =
        .next ((u.withFloor { u.floor with tasks := u.floor.tasks.put id { t with done := t.done + n.toNat } }
            []).replyDone 0x43#8 tag
          (le16 id ++ le8 (t.done + n.toNat) ++ le8 t.total ++ [0#8] ++ flag8 late ++ [0#8]))) ∧
    (1 ≤ n.toNat → n.toNat = t.remaining → u.floor.backlog = [] → u.floor.stalledDeps = [] →
      ∃ f : Floor, exec (.taskDone tag (le16 id ++ [m, n] ++ le32 label)) s =
          .next ((u.withFloor f []).replyDone 0x43#8 tag
            (le16 id ++ le8 (t.done + n.toNat) ++ le8 t.total ++ [1#8] ++ flag8 late ++ [0#8])) ∧
        f.tasks.get id = none ∧ (∀ k, k ≠ id → f.tasks.get k = u.floor.tasks.get k) ∧
        f.queue t.level = (u.floor.queue t.level).filter (· ≠ id) ∧
        (∀ level, level ≠ t.level → f.queue level = u.floor.queue level) ∧
        f.issued = u.floor.issued.filter (· ≠ id) ∧
        (late = false → f.mover m.toNat = { state := .idle, last := some id }) ∧
        (∀ k, late = true ∨ k ≠ m.toNat → f.mover k = u.floor.mover k) ∧
        { u.floor with movers := f.movers, tasks := f.tasks, queues := f.queues, issued := f.issued } = f)

/-- TASK DONE of one lift moves one pallet, R103, R58, R8, R80. A TIP lift puts a pallet of a PLANNED departure into the lane,
IN LANE at the tail of the present list, and the incoming count falls by one (a lift that is not the last). The last lift
of a RELOCATE from a door puts its pallet HELD to location 1 and ends the task. The last lift of a LOAD for a CUT departure
takes its pallet out of the lane and makes its RELEASED entry LOADED, the pallet ON TRAILER; for a LOADING departure whose
every other entry is LOADED it also makes the departure LOADED, with its note (R38). MISMATCH tells that the label
scanned is another, R105. Creation backlog empty, no departure stalled; the lane of the LOAD has no low limit. The labels
stand in the reply without a count (log 8). -/
def Obligations.LiftsMoveOnePallet : Prop :=
  ∀ (s u : State) (tag m : Byte) (id label ref : Nat) (rest : List Nat) (t : Task) (p : Pallet), id ≤ 65535 →
    label ≤ 4294967295 →
    s.taken { kind := 0x43#8, tag := tag, body := le16 id ++ [m, 1#8] ++ le32 label } = some u →
    1 ≤ m.toNat → m.toNat ≤ 24 → u.clock.isOpen = true → u.floor.tasks.get id = some t → t.mover = some m.toNat →
    t.unmoved = ref :: rest → u.floor.pallets.get ref = some p → u.floor.backlog = [] → u.floor.stalledDeps = [] →
    (∀ l d, t.kind = .tip → t.dst = .floor l → 2 ≤ l → 1 < t.remaining → p.dep = some d →
      (u.floor.departure d).state = .planned → 0 < (u.floor.lane l).incoming →
      exec (.taskDone tag (le16 id ++ [m, 1#8] ++ le32 label)) s =
        .next ((u.withFloor { u.floor with
            pallets := u.floor.pallets.put ref { p with state := .inLane, loc := some (.floor l) }
            lanes := u.floor.lanes.set Lane.reset l
              { u.floor.lane l with
                incoming := (u.floor.lane l).incoming - 1, present := (u.floor.lane l).present ++ [ref] }
            tasks := u.floor.tasks.put id { t with done := t.done + 1 } } []).replyDone 0x43#8 tag
          (le16 id ++ le8 (t.done + 1) ++ le8 t.total ++ [0#8] ++ le32 p.label ++ [0#8] ++
            flag8 (decide (label ≠ 0 ∧ label ≠ p.label))))) ∧
    (∀ n, t.kind = .relocate → t.src = .door n → t.dst = .floor 1 → t.remaining = 1 →
      ∃ f : Floor, exec (.taskDone tag (le16 id ++ [m, 1#8] ++ le32 label)) s =
          .next ((u.withFloor f []).replyDone 0x43#8 tag
            (le16 id ++ le8 (t.done + 1) ++ le8 t.total ++ [1#8] ++ le32 p.label ++ [0#8] ++
              flag8 (decide (label ≠ 0 ∧ label ≠ p.label)))) ∧
        f.pallets = u.floor.pallets.put ref { p with state := .held, loc := some (.floor 1) } ∧
        f.tasks.get id = none ∧ (∀ k, k ≠ id → f.tasks.get k = u.floor.tasks.get k) ∧
        f.mover m.toNat = { state := .idle, last := some id } ∧ (∀ k, k ≠ m.toNat → f.mover k = u.floor.mover k) ∧
        f.queue t.level = (u.floor.queue t.level).filter (· ≠ id) ∧
        (∀ level, level ≠ t.level → f.queue level = u.floor.queue level) ∧
        f.issued = u.floor.issued.filter (· ≠ id) ∧
        { u.floor with
          pallets := f.pallets, tasks := f.tasks, movers := f.movers, queues := f.queues, issued := f.issued } = f) ∧
    (∀ l d x, t.kind = .load → t.src = .floor l → 2 ≤ l → t.dep = some d → t.remaining = 1 →
      (u.floor.departure d).state = .cut → (u.floor.deck d).slotOf ref = some x → x.entry.status = .released →
      (u.floor.lane l).low = none →
      ∃ f : Floor, exec (.taskDone tag (le16 id ++ [m, 1#8] ++ le32 label)) s =
          .next ((u.withFloor f []).replyDone 0x43#8 tag
            (le16 id ++ le8 (t.done + 1) ++ le8 t.total ++ [1#8] ++ le32 p.label ++ [0#8] ++
              flag8 (decide (label ≠ 0 ∧ label ≠ p.label)))) ∧
        f.pallets = u.floor.pallets.put ref { p with state := .onTrailer, loc := some (.trailer d x.pos x.tier) } ∧
        f.decks = u.floor.decks.put d ((u.floor.deck d).shift ref .released .loaded) ∧
        f.lane l = { u.floor.lane l with present := (u.floor.lane l).present.filter (· ≠ ref) } ∧
        (∀ k, k ≠ l → f.lane k = u.floor.lane k) ∧
        f.tasks.get id = none ∧ (∀ k, k ≠ id → f.tasks.get k = u.floor.tasks.get k) ∧
        f.mover m.toNat = { state := .idle, last := some id } ∧ (∀ k, k ≠ m.toNat → f.mover k = u.floor.mover k) ∧
        f.queue t.level = (u.floor.queue t.level).filter (· ≠ id) ∧
        (∀ level, level ≠ t.level → f.queue level = u.floor.queue level) ∧
        f.issued = u.floor.issued.filter (· ≠ id) ∧
        { u.floor with
          pallets := f.pallets, decks := f.decks, lanes := f.lanes, tasks := f.tasks, movers := f.movers
          queues := f.queues, issued := f.issued } = f) ∧
    (∀ l d x r, t.kind = .load → t.src = .floor l → 2 ≤ l → t.dep = some d → t.remaining = 1 →
      u.floor.departures.get d = some r → r.state = .loading → (u.floor.deck d).slotOf ref = some x → x.entry.status = .released →
      (∀ z ∈ (u.floor.deck d).slots, z = x ∨ z.entry.status = .loaded) → (u.floor.lane l).low = none →
      ∃ f : Floor, exec (.taskDone tag (le16 id ++ [m, 1#8] ++ le32 label)) s =
          .next ((u.withFloor f [u.report d (.departure .loaded (u.floor.deck d).w (u.floor.deck d).k
            (u.floor.deck d).b)]).replyDone 0x43#8 tag
            (le16 id ++ le8 (t.done + 1) ++ le8 t.total ++ [1#8] ++ le32 p.label ++ [0#8] ++
              flag8 (decide (label ≠ 0 ∧ label ≠ p.label)))) ∧
        f.pallets = u.floor.pallets.put ref { p with state := .onTrailer, loc := some (.trailer d x.pos x.tier) } ∧
        f.decks = u.floor.decks.put d ((u.floor.deck d).shift ref .released .loaded) ∧
        f.lane l = { u.floor.lane l with present := (u.floor.lane l).present.filter (· ≠ ref) } ∧
        (∀ k, k ≠ l → f.lane k = u.floor.lane k) ∧
        f.departures.get d = some { r with state := .loaded } ∧
        (∀ k, k ≠ d → f.departures.get k = u.floor.departures.get k) ∧
        f.tasks.get id = none ∧ (∀ k, k ≠ id → f.tasks.get k = u.floor.tasks.get k) ∧
        f.mover m.toNat = { state := .idle, last := some id } ∧ (∀ k, k ≠ m.toNat → f.mover k = u.floor.mover k) ∧
        f.queue t.level = (u.floor.queue t.level).filter (· ≠ id) ∧
        (∀ level, level ≠ t.level → f.queue level = u.floor.queue level) ∧
        f.issued = u.floor.issued.filter (· ≠ id) ∧
        { u.floor with
          pallets := f.pallets, decks := f.decks, departures := f.departures, lanes := f.lanes, tasks := f.tasks, movers := f.movers
          queues := f.queues, issued := f.issued } = f)

/-- TASK FAIL BLOCKED in case (a), R106, R108, R111: the mover is IDLE with the task as its last task. A POSTED task returns
to the tail of the queue of its own level with its mark clear and its lifts kept. What becomes of a LOAD task of one pallet,
R42, R58, its pallet IN LANE again: for a LOADING departure inside its margin it returns to level 6, and nothing is
released (log 15, DEDUCED); for a STOPPING or STOPPED one it leaves the pool and its entry is PLANNED, and a STOPPING one
with no other task ISSUED becomes STOPPED with its note; for a CUT one it leaves the pool, the entry leaves the deck, and the pallet, which no
departure takes, is HELD with a RELOCATE task and its note (R71). Which departures an ECONOMY pallet may try when it is
re-routed, the first of its route list and then not the former one, is the model's reading of R65 and R70 (log 12, DEDUCED).
The code 1 for "QUEUED at a level" and the zeros for "ended" in the reply are the model's choice (log 8). -/
def Obligations.BlockedTaskReturnsToItsQueue : Prop :=
  (∀ (s u : State) (tag m : Byte) (id : Nat) (t : Task), id ≤ 65535 →
    s.taken { kind := 0x44#8, tag := tag, body := le16 id ++ [m, 2#8] } = some u →
    1 ≤ m.toNat → m.toNat ≤ 24 → u.clock.isOpen = true → u.floor.tasks.get id = some t →
    t.kind = .posted → t.pallets = [] → t.mover = some m.toNat → t.lastMover = some m.toNat →
    ∃ f : Floor, exec (.taskFail tag (le16 id ++ [m, 2#8])) s =
        .next ((u.withFloor f []).replyDone 0x44#8 tag (le16 id ++ [1#8] ++ le8 t.level)) ∧
      f.mover m.toNat = { state := .idle, last := some id } ∧ (∀ k, k ≠ m.toNat → f.mover k = u.floor.mover k) ∧
      f.tasks.get id = some { t with mover := none, mark := false } ∧
      (∀ k, k ≠ id → f.tasks.get k = u.floor.tasks.get k) ∧
      f.queue t.level = (u.floor.queue t.level).filter (· ≠ id) ++ [id] ∧
      (∀ level, level ≠ t.level → f.queue level = u.floor.queue level) ∧
      f.issued = u.floor.issued.filter (· ≠ id) ∧
      { u.floor with movers := f.movers, tasks := f.tasks, queues := f.queues, issued := f.issued } = f) ∧
  (∀ (s u : State) (tag m : Byte) (id l d ref : Nat) (t : Task) (p : Pallet) (r : Departure), id ≤ 65535 →
    s.taken { kind := 0x44#8, tag := tag, body := le16 id ++ [m, 2#8] } = some u →
    1 ≤ m.toNat → m.toNat ≤ 24 → u.clock.isOpen = true → u.floor.tasks.get id = some t → u.floor.tasks.size ≤ 1024 →
    t.kind = .load → t.src = .floor l → 2 ≤ l → t.dep = some d → t.unmoved = [ref] → t.mover = some m.toNat →
    t.lastMover = some m.toNat → u.floor.pallets.get ref = some p → p.loc = some (.floor l) →
    u.floor.departures.get d = some r → u.floor.backlog = [] → u.floor.stalledDeps = [] →
    (r.state = .loading → r.marginMark = true → t.level < 6 →
      ∃ f : Floor, exec (.taskFail tag (le16 id ++ [m, 2#8])) s =
          .next ((u.withFloor f []).replyDone 0x44#8 tag (le16 id ++ [1#8, 6#8])) ∧
        f.mover m.toNat = { state := .idle, last := some id } ∧ (∀ k, k ≠ m.toNat → f.mover k = u.floor.mover k) ∧
        f.tasks.get id = some { t with level := 6, mover := none, mark := false } ∧
        (∀ k, k ≠ id → f.tasks.get k = u.floor.tasks.get k) ∧
        f.queue 6 = u.floor.queue 6 ++ [id] ∧ f.queue t.level = (u.floor.queue t.level).filter (· ≠ id) ∧
        (∀ level, level ≠ 6 → level ≠ t.level → f.queue level = u.floor.queue level) ∧
        f.issued = u.floor.issued.filter (· ≠ id) ∧ f.pallets = u.floor.pallets.put ref { p with state := .inLane } ∧
        { u.floor with
          movers := f.movers, tasks := f.tasks, queues := f.queues, issued := f.issued, pallets := f.pallets } = f) ∧
    (r.state = .stopping ∨ r.state = .stopped →
      (∀ c ∈ u.floor.tasks.cells, c.2.loads = true → c.2.dep = some d → c.2.isIssued = true → c.1 = id) →
      ∃ f : Floor, exec (.taskFail tag (le16 id ++ [m, 2#8])) s =
          .next ((u.withFloor f (if r.state = .stopping then
              [u.report d (.departure .stopped (u.floor.deck d).w (u.floor.deck d).k (u.floor.deck d).b)]
            else [])).replyDone 0x44#8 tag (le16 id ++ [0#8, 0#8])) ∧
        f.mover m.toNat = { state := .idle, last := some id } ∧ (∀ k, k ≠ m.toNat → f.mover k = u.floor.mover k) ∧
        f.tasks.get id = none ∧ (∀ k, k ≠ id → f.tasks.get k = u.floor.tasks.get k) ∧
        f.queue t.level = (u.floor.queue t.level).filter (· ≠ id) ∧
        (∀ level, level ≠ t.level → f.queue level = u.floor.queue level) ∧
        f.issued = u.floor.issued.filter (· ≠ id) ∧ f.pallets = u.floor.pallets.put ref { p with state := .inLane } ∧
        f.decks = u.floor.decks.put d ((u.floor.deck d).shift ref .released .planned) ∧
        f.departures.get d = some { r with state := .stopped } ∧
        (∀ k, k ≠ d → f.departures.get k = u.floor.departures.get k) ∧
        { u.floor with
          movers := f.movers, tasks := f.tasks, queues := f.queues, issued := f.issued, pallets := f.pallets
          decks := f.decks, departures := f.departures } = f) ∧
    (∀ e pr pos tier nid, r.state = .cut → p.dep = some d → p.slot = some (pos, tier) →
      u.plan.active.departures.get d = some e → u.plan.active.profiles.get e.profile = some pr →
      ((u.floor.deck d).stackAt pos).length = tier → u.toRun.env.routeFor p (some d) = [] →
      (∀ c ∈ u.floor.tasks.cells, ref ∈ c.2.unmoved → c.1 = id) →
      nid = ({ u.floor with tasks := u.floor.tasks.erase id } : Floor).allocId →
      ∃ f : Floor, exec (.taskFail tag (le16 id ++ [m, 2#8])) s =
          .next ((u.withFloor f [u.report d (.pallet p.label (.held .cut))]).replyDone 0x44#8 tag
            (le16 id ++ [0#8, 0#8])) ∧
        f.mover m.toNat = { state := .idle, last := some id } ∧ (∀ k, k ≠ m.toNat → f.mover k = u.floor.mover k) ∧
        f.tasks = (u.floor.tasks.erase id).put nid (newTask .relocate 1 (.floor l) (.floor 1) [ref] 1 none) ∧
        (∀ level, f.queue level =
          (if level = t.level then (u.floor.queue level).filter (· ≠ id) else u.floor.queue level) ++
            (if level = 1 then [nid] else [])) ∧
        f.issued = u.floor.issued.filter (· ≠ id) ∧
        f.pallets.get ref = some { p with state := .held, dep := none, slot := none } ∧
        (∀ k, k ≠ ref → f.pallets.get k = u.floor.pallets.get k) ∧
        f.decks = u.floor.decks.put d ((u.floor.deck d).pull pr pos ref p.weight) ∧
        { u.floor with
          movers := f.movers, tasks := f.tasks, queues := f.queues, issued := f.issued, pallets := f.pallets
          decks := f.decks, nextId := f.nextId } = f))

/-- TASK FAIL NOT FOUND, R107, for the RELOCATE of one pallet without departure from a door, and DAMAGED, R109, for a POSTED
task, in case (a): the task leaves pool, queue and issue order and its mover is IDLE; a pallet not found, which no other
task carries (R92), is MISSING, with no location and no exception reason, and its PALLET NOTE is queued. DAMAGED of the one
pallet of a TIP task, on top of its stack on a PLANNED departure: its entry leaves the deck, its place in the lane is given
up, it is EXCEPTION with reason DAMAGED at the door without departure, a RELOCATE task at level 0 takes it to location 0,
its PALLET NOTE names the departure, and the TIP task leaves the pool. NOT FOUND of the LOAD task of a STOPPING departure
with no other task ISSUED: the issue ends first, so the departure is STOPPED and its note carries the totals with the pallet
still on the deck; that this comes before the reason acts, and not where R24 re-evaluates the end of STOPPING after the
removal, is the model's reading of R106 and R45 (log 15, DEDUCED). Then the entry leaves the deck, the pallet, on top of its
stack, leaves its lane and is MISSING, and its PALLET NOTE follows. Creation backlog empty, no departure stalled. The two
zeros for "ended" in the reply are the model's choice (log 8). -/
def Obligations.FailedTasksEnd : Prop :=
  ∀ (s u : State) (tag m reason : Byte) (id : Nat) (t : Task), id ≤ 65535 →
    s.taken { kind := 0x44#8, tag := tag, body := le16 id ++ [m, reason] } = some u →
    1 ≤ m.toNat → m.toNat ≤ 24 → u.clock.isOpen = true → u.floor.tasks.get id = some t → t.mover = some m.toNat →
    u.floor.backlog = [] → u.floor.stalledDeps = [] →
    (reason.toNat = 0 ∨ 3 < reason.toNat →
      exec (.taskFail tag (le16 id ++ [m, reason])) s = .next (u.replyRefused 0x44#8 tag .range)) ∧
    (∀ n ref p, reason = 1#8 → t.kind = .relocate → t.src = .door n → t.unmoved = [ref] →
      u.floor.pallets.get ref = some p → p.dep = none → p.loc = some (.door n) →
      (∀ c ∈ u.floor.tasks.cells, ref ∈ c.2.unmoved → c.1 = id) →
      ∃ f : Floor, exec (.taskFail tag (le16 id ++ [m, reason])) s =
          .next ((u.withFloor f [u.report 0 (.pallet p.label (.missing .notFound))]).replyDone 0x44#8 tag
            (le16 id ++ [0#8, 0#8] ++ le32 p.label)) ∧
        f.pallets = u.floor.pallets.put ref { p with state := .missing, loc := none, reason := none } ∧
        f.tasks.get id = none ∧ (∀ k, k ≠ id → f.tasks.get k = u.floor.tasks.get k) ∧
        f.mover m.toNat = { state := .idle, last := some id } ∧ (∀ k, k ≠ m.toNat → f.mover k = u.floor.mover k) ∧
        f.queue t.level = (u.floor.queue t.level).filter (· ≠ id) ∧
        (∀ level, level ≠ t.level → f.queue level = u.floor.queue level) ∧
        f.issued = u.floor.issued.filter (· ≠ id) ∧
        { u.floor with
          pallets := f.pallets, tasks := f.tasks, movers := f.movers, queues := f.queues, issued := f.issued } = f) ∧
    (reason = 3#8 → t.kind = .posted → t.pallets = [] →
      ∃ f : Floor, exec (.taskFail tag (le16 id ++ [m, reason])) s =
          .next ((u.withFloor f []).replyDone 0x44#8 tag (le16 id ++ [0#8, 0#8])) ∧
        f.tasks.get id = none ∧ (∀ k, k ≠ id → f.tasks.get k = u.floor.tasks.get k) ∧
        f.mover m.toNat = { state := .idle, last := some id } ∧ (∀ k, k ≠ m.toNat → f.mover k = u.floor.mover k) ∧
        f.queue t.level = (u.floor.queue t.level).filter (· ≠ id) ∧
        (∀ level, level ≠ t.level → f.queue level = u.floor.queue level) ∧
        f.issued = u.floor.issued.filter (· ≠ id) ∧
        { u.floor with tasks := f.tasks, movers := f.movers, queues := f.queues, issued := f.issued } = f) ∧
    (∀ n l ref p d e r pr pos tier nid, reason = 3#8 → t.kind = .tip → t.src = .door n → t.dst = .floor l → 2 ≤ l →
      t.unmoved = [ref] → t.lastMover = some m.toNat → u.floor.pallets.get ref = some p → p.dep = some d →
      p.slot = some (pos, tier) → u.plan.active.departures.get d = some e →
      u.plan.active.profiles.get e.profile = some pr → u.floor.departures.get d = some r → r.state = .planned →
      ((u.floor.deck d).stackAt pos).length = tier → (u.floor.lane l).low = none → u.floor.tasks.wf = true →
      u.floor.tasks.size < 1024 → (∀ c ∈ u.floor.tasks.cells, ref ∈ c.2.unmoved → c.1 = id) →
      nid = u.floor.allocId → u.floor.tasks.get nid = none →
      ∃ f : Floor, exec (.taskFail tag (le16 id ++ [m, reason])) s =
          .next ((u.withFloor f [u.report d (.pallet p.label (.exception .damaged))]).replyDone 0x44#8 tag
            (le16 id ++ [0#8, 0#8] ++ le32 p.label)) ∧
        f.pallets.get ref = some { p with
          state := .exception, reason := some .damaged, loc := some (.door n), dep := none, slot := none } ∧
        (∀ k, k ≠ ref → f.pallets.get k = u.floor.pallets.get k) ∧
        f.decks = u.floor.decks.put d ((u.floor.deck d).pull pr pos ref p.weight) ∧
        f.lane l = { u.floor.lane l with incoming := (u.floor.lane l).incoming - 1 } ∧
        (∀ k, k ≠ l → f.lane k = u.floor.lane k) ∧
        f.tasks.get id = none ∧ f.tasks.get nid = some (newTask .relocate 0 (.door n) (.floor 0) [ref] 1 none) ∧
        (∀ k, k ≠ id → k ≠ nid → f.tasks.get k = u.floor.tasks.get k) ∧
        f.nextId = (if 65535 ≤ nid then 1 else nid + 1) ∧
        f.mover m.toNat = { state := .idle, last := some id } ∧ (∀ k, k ≠ m.toNat → f.mover k = u.floor.mover k) ∧
        (∀ level, f.queue level =
          (if level = t.level then (u.floor.queue level).filter (· ≠ id) else u.floor.queue level) ++
            (if level = 0 then [nid] else [])) ∧
        f.issued = u.floor.issued.filter (· ≠ id) ∧
        { u.floor with
          pallets := f.pallets, decks := f.decks, lanes := f.lanes, tasks := f.tasks, movers := f.movers
          queues := f.queues, issued := f.issued, nextId := f.nextId } = f) ∧
    (∀ l ref p d e r pr pos tier, reason = 1#8 → t.kind = .load → t.dep = some d → t.unmoved = [ref] →
      u.floor.pallets.get ref = some p → p.dep = some d → p.slot = some (pos, tier) → p.loc = some (.floor l) → 2 ≤ l →
      u.plan.active.departures.get d = some e → u.plan.active.profiles.get e.profile = some pr →
      u.floor.departures.get d = some r → r.state = .stopping → ((u.floor.deck d).stackAt pos).length = tier →
      (u.floor.lane l).low = none → u.floor.tasks.wf = true →
      (∀ c ∈ u.floor.tasks.cells, c.2.loads = true → c.2.dep = some d → c.2.isIssued = true → c.1 = id) →
      (∀ c ∈ u.floor.tasks.cells, ref ∈ c.2.unmoved → c.1 = id) →
      ∃ f : Floor, exec (.taskFail tag (le16 id ++ [m, reason])) s =
          .next ((u.withFloor f
            [u.report d (.departure .stopped (u.floor.deck d).w (u.floor.deck d).k (u.floor.deck d).b),
              u.report d (.pallet p.label (.missing .notFound))]).replyDone 0x44#8 tag
            (le16 id ++ [0#8, 0#8] ++ le32 p.label)) ∧
        f.departures.get d = some { r with state := .stopped } ∧
        (∀ k, k ≠ d → f.departures.get k = u.floor.departures.get k) ∧
        f.decks = u.floor.decks.put d ((u.floor.deck d).pull pr pos ref p.weight) ∧
        f.pallets.get ref = some { p with state := .missing, loc := none, dep := none, slot := none, reason := none } ∧
        (∀ k, k ≠ ref → f.pallets.get k = u.floor.pallets.get k) ∧
        f.lane l = { u.floor.lane l with present := (u.floor.lane l).present.filter (· ≠ ref) } ∧
        (∀ k, k ≠ l → f.lane k = u.floor.lane k) ∧
        f.tasks.get id = none ∧ (∀ k, k ≠ id → f.tasks.get k = u.floor.tasks.get k) ∧
        f.mover m.toNat = { state := .idle, last := some id } ∧ (∀ k, k ≠ m.toNat → f.mover k = u.floor.mover k) ∧
        f.queue t.level = (u.floor.queue t.level).filter (· ≠ id) ∧
        (∀ level, level ≠ t.level → f.queue level = u.floor.queue level) ∧
        f.issued = u.floor.issued.filter (· ≠ id) ∧
        { u.floor with
          departures := f.departures, decks := f.decks, pallets := f.pallets, lanes := f.lanes, tasks := f.tasks
          movers := f.movers, queues := f.queues, issued := f.issued } = f)

/-- TASK EXPIRY of a POSTED task whose turn it is, R110, R111: its mover is IDLE with it as its last task, it is QUEUED one
level higher (6 and 7 stay) with its mark set, and a TASK NOTE EXPIRED is queued. What counts as its turn among the works of
a minute, and that the expiries after it stay outstanding, is the model's choice (log 3, 5). Tasks that carry pallets are
left out here. -/
def Obligations.ExpiryRaisesTheLevelAndMarks : Prop :=
  ∀ (s : State) (id m : Nat) (rest : List Nat) (t : Task), s.work.expiring = id :: rest →
    s.floor.tasks.get id = some t → t.kind = .posted → t.pallets = [] → t.dep = none → t.mover = some m →
    ∃ f : Floor, exec (.taskExpiry id) s =
        .next { s.withFloor f [s.report id
            (.task m (if 6 ≤ t.level then t.level else t.level + 1) 0 t.done t.total)] with
          work :=
            { started := if rest = [] then none else some (.expiry rest)
              waiting := s.work.waiting.filter (· ≠ .expiry (id :: rest)) } } ∧
      f.mover m = { state := .idle, last := some id } ∧ (∀ k, k ≠ m → f.mover k = s.floor.mover k) ∧
      f.tasks.get id = some { t with
        level := if 6 ≤ t.level then t.level else t.level + 1, mover := none, mark := true } ∧
      (∀ k, k ≠ id → f.tasks.get k = s.floor.tasks.get k) ∧
      (∀ level, f.queue level =
        (if level = t.level then (s.floor.queue level).filter (· ≠ id) else s.floor.queue level) ++
          (if level = (if 6 ≤ t.level then t.level else t.level + 1) then [id] else [])) ∧
      f.issued = s.floor.issued.filter (· ≠ id) ∧
      { s.floor with movers := f.movers, tasks := f.tasks, queues := f.queues, issued := f.issued } = f

/-- POST TASK, R113, R93: refused with FULL at 1024 tasks; otherwise a POSTED task with no pallet and no departure under the
next free id, at the tail of the queue of its level, its id in the reply. -/
def Obligations.PostTaskCreatesOneTask : Prop :=
  ∀ (s u : State) (tag : Byte) (body : List Byte) (src dst : Loc),
    s.taken { kind := 0x45#8, tag := tag, body := body } = some u → body.length = 10 → u.clock.isOpen = true →
    postedLoc body 1 = some src → postedLoc body 5 = some dst → u8 body 0 ≤ 7 → 1 ≤ u8 body 9 → u8 body 9 ≤ 16 →
    (1024 ≤ u.floor.tasks.size → exec (.postTask tag body) s = .next (u.replyRefused 0x45#8 tag .full)) ∧
    (u.floor.tasks.size < 1024 →
      exec (.postTask tag body) s =
        .next ((u.withFloor { u.floor with
            tasks := u.floor.tasks.put u.floor.allocId (newTask .posted (u8 body 0) src dst [] (u8 body 9) none)
            nextId := if 65535 ≤ u.floor.allocId then 1 else u.floor.allocId + 1
            queues := u.floor.queues.set [] (u8 body 0) (u.floor.queue (u8 body 0) ++ [u.floor.allocId]) }
          []).replyDone 0x45#8 tag (le16 u.floor.allocId)))

/-- DISPATCH HOLD, R114: FORMAT, RANGE, and otherwise the flag takes the value given, in any night state, and the reply has
the value before; while it is on no task is eligible. -/
def Obligations.DispatchHoldSetsTheFlag : Prop :=
  (∀ (s u : State) (tag : Byte) (body : List Byte), s.taken { kind := 0x46#8, tag := tag, body := body } = some u →
    (body.length ≠ 1 → exec (.dispatchHold tag body) s = .next (u.replyRefused 0x46#8 tag .format)) ∧
    (∀ c : Byte, body = [c] → 1 < c.toNat → exec (.dispatchHold tag body) s = .next (u.replyRefused 0x46#8 tag .range)) ∧
    (∀ on : Bool, body = flag8 on →
      exec (.dispatchHold tag body) s =
        .next ((u.withFloor { u.floor with dispatchHold := on } []).replyDone 0x46#8 tag
          (flag8 u.floor.dispatchHold)))) ∧
  (∀ (f : Floor) (env : Env) (t : Task), f.dispatchHold = true → f.ineligible env t = some .dispatchHold)

/-! ## Departures -/

/-- CALL NOW of a PLANNED departure, R31, R32, R121: its marks and called minute are set; with its OUTBOUND door free and
not faulted and an empty deck it takes the door, is LOADING, and CALLED is queued; with the door faulted it is WAITING DOOR
at the tail of the waiting list and DEFERRED is queued. In another state it is refused with STATE. -/
def Obligations.CallTakesTheDoorOrWaits : Prop :=
  ∀ (s u : State) (tag d : Byte) (e : DepartureEntry) (r : Departure),
    s.taken { kind := 0x50#8, tag := tag, body := [d] } = some u → 1 ≤ d.toNat → d.toNat ≤ 48 → u.clock.isOpen = true →
    u.plan.active.departures.get d.toNat = some e → u.floor.departures.get d.toNat = some r →
    (r.state ≠ .planned → exec (.callNow tag [d]) s = .next (u.replyRefused 0x50#8 tag .state)) ∧
    (r.state = .planned → (u.plan.active.doorEntry e.door).role = .outbound →
      ((u.floor.door e.door).faulted = true →
        ∃ f : Floor, exec (.callNow tag [d]) s =
            .next ((u.withFloor f [u.report d.toNat (.departure (.deferred .faulted) (u.floor.deck d.toNat).w
              (u.floor.deck d.toNat).k (u.floor.deck d.toNat).b)]).replyDone 0x50#8 tag
              ([2#8] ++ le16 u.clock.minute)) ∧
          f.departures.get d.toNat = some { r with
            callMark := true, calledMinute := some u.clock.minute, state := .waitingDoor } ∧
          (∀ k, k ≠ d.toNat → f.departures.get k = u.floor.departures.get k) ∧
          f.waiting = u.floor.waiting ++ [d.toNat] ∧
          { u.floor with departures := f.departures, waiting := f.waiting } = f) ∧
      (∀ n, (u.floor.door e.door).faulted = false → (u.floor.door e.door).underlying = .outboundFree →
        u.floor.deck d.toNat = Deck.blank n →
        ∃ f : Floor, exec (.callNow tag [d]) s =
            .next ((u.withFloor f [u.report d.toNat (.departure (.called u.clock.minute) 0 0 0)]).replyDone 0x50#8 tag
              ([3#8] ++ le16 u.clock.minute)) ∧
          f.departures.get d.toNat = some { r with
            callMark := true, calledMinute := some u.clock.minute, state := .loading, doorTaken := true } ∧
          (∀ k, k ≠ d.toNat → f.departures.get k = u.floor.departures.get k) ∧
          (f.door e.door).underlying = .occupied d.toNat ∧ (∀ k, k ≠ e.door → f.door k = u.floor.door k) ∧
          f.waiting = u.floor.waiting.filter (· ≠ d.toNat) ∧
          { u.floor with departures := f.departures, waiting := f.waiting, doors := f.doors } = f))

/-- CUT NOW, R47, R49: a CUT or CLOSED departure is refused with STATE. Otherwise its three marks are set, it leaves the
waiting list, it is CUT, and DEPARTURE NOTE CUT is queued; with an empty deck removed at cut is 0. A single PLANNED entry,
its pallet IN LANE and on no task, is removed, and the pallet offered to the other departures of its route (R70): taken by
the first of these, PLANNED there, it is on its deck and stays in its lane, with PALLET NOTE REROUTED; taken by none, it is
HELD with a RELOCATE task at level 1 to location 1 and PALLET NOTE HELD (R71). The totals in the note and the reply are
those after the removal. Which departures an ECONOMY pallet is offered to, the first of its route list and then not the
former one, is the model's reading of R65 and R70 (log 12, DEDUCED). That the cut-off, which sets the call mark, keeps the
called minute as it was, absent where no call was made (R28), is the model's choice (log 33). A cut that removes several
entries is left out here. -/
def Obligations.CutNowCutsADeparture : Prop :=
  ∀ (s u : State) (tag d : Byte) (e : DepartureEntry) (r : Departure) (n : Nat),
    s.taken { kind := 0x51#8, tag := tag, body := [d] } = some u → 1 ≤ d.toNat → d.toNat ≤ 48 → u.clock.isOpen = true →
    u.plan.active.departures.get d.toNat = some e → u.floor.departures.get d.toNat = some r →
    (r.state = .cut ∨ r.state = .closed → exec (.cutNow tag [d]) s = .next (u.replyRefused 0x51#8 tag .state)) ∧
    (r.state ≠ .cut → r.state ≠ .closed → u.floor.deck d.toNat = Deck.blank n →
      ∃ f : Floor, exec (.cutNow tag [d]) s =
          .next ((u.withFloor f [u.report d.toNat (.departure (.cut 0) 0 0 0)]).replyDone 0x51#8 tag
            (List.replicate 9 0#8)) ∧
        f.departures.get d.toNat = some { r with
          callMark := true, marginMark := true, cutMark := true, stalled := false, removedAtCut := 0, state := .cut } ∧
        (∀ k, k ≠ d.toNat → f.departures.get k = u.floor.departures.get k) ∧
        f.waiting = u.floor.waiting.filter (· ≠ d.toNat) ∧
        { u.floor with departures := f.departures, waiting := f.waiting } = f) ∧
    (∀ x p l pr dk (y : Yard) (cut : Nat → Departure), r.state ≠ .cut → r.state ≠ .closed →
      (u.floor.deck d.toNat).slots = [x] → x.entry.status = .planned → u.floor.pallets.get x.entry.ref = some p →
      p.state = .inLane → p.loc = some (.floor l) → 2 ≤ l → p.dep = some d.toNat → p.slot = some (x.pos, x.tier) →
      u.floor.carrier x.entry.ref = none → u.floor.backlogOf x.entry.ref = none → u.floor.tasks.size < 1024 →
      u.plan.active.profiles.get e.profile = some pr →
      dk = (u.floor.deck d.toNat).pull pr x.pos x.entry.ref p.weight →
      cut = (fun removed => { r with
        callMark := true, marginMark := true, cutMark := true, stalled := false, removedAtCut := removed
        state := .cut }) →
      y = { u.floor with
        waiting := u.floor.waiting.filter (· ≠ d.toNat)
        departures := u.floor.departures.put d.toNat
          { r with callMark := true, marginMark := true, cutMark := true, stalled := false }
        decks := u.floor.decks.put d.toNat dk
        pallets := u.floor.pallets.put x.entry.ref { p with dep := none, slot := none }
        notes := [] } →
      (∀ d2 rest e2 pr2 pos tier, u.toRun.env.routeFor p (some d.toNat) = d2 :: rest →
        u.plan.active.departures.get d2 = some e2 → u.plan.active.profiles.get e2.profile = some pr2 →
        (u.floor.departure d2).state = .planned → p.dest = e2.drop1 ∨ e2.drop2 = some p.dest →
        y.findPlace u.toRun.env d2 x.entry.ref = some pos → tier = ((u.floor.deck d2).stackAt pos).length + 1 →
        ∃ f : Floor, exec (.cutNow tag [d]) s =
            .next ((u.withFloor f
              [u.report d2 (.pallet p.label (.rerouted d.toNat pos tier .cut)),
                u.report d.toNat (.departure (.cut 1) dk.w dk.k dk.b)]).replyDone 0x51#8 tag
              ([1#8, 1#8, 0#8] ++ le16 dk.w ++ le16 dk.k ++ le16 dk.b)) ∧
          f.departures.get d.toNat = some (cut 1) ∧
          (∀ k, k ≠ d.toNat → f.departures.get k = u.floor.departures.get k) ∧
          f.deck d.toNat = dk ∧
          f.deck d2 = (u.floor.deck d2).push pr2 pos { ref := x.entry.ref, status := .planned } p.weight ∧
          (∀ k, k ≠ d.toNat → k ≠ d2 → f.deck k = u.floor.deck k) ∧
          f.pallets.get x.entry.ref = some { p with dep := some d2, slot := some (pos, tier) } ∧
          (∀ k, k ≠ x.entry.ref → f.pallets.get k = u.floor.pallets.get k) ∧
          f.waiting = u.floor.waiting.filter (· ≠ d.toNat) ∧
          { u.floor with
            departures := f.departures, waiting := f.waiting, decks := f.decks, pallets := f.pallets } = f) ∧
      ((∀ d2 ∈ u.toRun.env.routeFor p (some d.toNat),
          y.candidate u.toRun.env (.lane l) d2 p.dest = none ∨ y.findPlace u.toRun.env d2 x.entry.ref = none) →
        ∃ f : Floor, exec (.cutNow tag [d]) s =
            .next ((u.withFloor f
              [u.report d.toNat (.pallet p.label (.held .cut)),
                u.report d.toNat (.departure (.cut 1) dk.w dk.k dk.b)]).replyDone 0x51#8 tag
              ([1#8, 0#8, 1#8] ++ le16 dk.w ++ le16 dk.k ++ le16 dk.b)) ∧
          f.departures.get d.toNat = some (cut 1) ∧
          (∀ k, k ≠ d.toNat → f.departures.get k = u.floor.departures.get k) ∧
          f.deck d.toNat = dk ∧ (∀ k, k ≠ d.toNat → f.deck k = u.floor.deck k) ∧
          f.pallets.get x.entry.ref = some { p with state := .held, dep := none, slot := none } ∧
          (∀ k, k ≠ x.entry.ref → f.pallets.get k = u.floor.pallets.get k) ∧
          f.waiting = u.floor.waiting.filter (· ≠ d.toNat) ∧
          { u.floor with
            departures := f.departures, waiting := f.waiting, decks := f.decks, pallets := f.pallets
            tasks := u.floor.tasks.put u.floor.allocId
              (newTask .relocate 1 (.floor l) (.floor 1) [x.entry.ref] 1 none)
            nextId := if 65535 ≤ u.floor.allocId then 1 else u.floor.allocId + 1
            queues := u.floor.queues.set [] 1 (u.floor.queue 1 ++ [u.floor.allocId]) } = f))

/-- HOLD LOAD and FREE LOAD, R43, R44: refused with STATE for a CLOSED departure; otherwise the hold flag is set or cleared
and the reply has its value before. FREE LOAD of a departure with an empty deck that is not STOPPING releases nothing. Of a
LOADING one that was held, with nothing RELEASED, a first entry PLANNED with its pallet in its lane, and a batch of 1 or no
other entry, it releases that entry (R34 to R36): a LOAD task from the lane to its place on the trailer at level 5, or 6
inside the margin, the entry RELEASED; with a full pool only release stalled is set. -/
def Obligations.HoldAndFreeSetTheHoldFlag : Prop :=
  ∀ (s u : State) (tag d : Byte) (e : DepartureEntry) (r : Departure), 1 ≤ d.toNat → d.toNat ≤ 48 →
    u.clock.isOpen = true → u.plan.active.departures.get d.toNat = some e →
    u.floor.departures.get d.toNat = some r →
    (s.taken { kind := 0x52#8, tag := tag, body := [d] } = some u →
      (r.state = .closed → exec (.holdLoad tag [d]) s = .next (u.replyRefused 0x52#8 tag .state)) ∧
      (r.state ≠ .closed →
        exec (.holdLoad tag [d]) s =
          .next ((u.withFloor { u.floor with departures := u.floor.departures.put d.toNat { r with hold := true } }
            []).replyDone 0x52#8 tag (flag8 r.hold)))) ∧
    (s.taken { kind := 0x53#8, tag := tag, body := [d] } = some u →
      (r.state = .closed → exec (.freeLoad tag [d]) s = .next (u.replyRefused 0x53#8 tag .state)) ∧
      (∀ n, r.state ≠ .closed → r.state ≠ .stopping → u.floor.deck d.toNat = Deck.blank n →
        exec (.freeLoad tag [d]) s =
          .next ((u.withFloor { u.floor with departures := u.floor.departures.put d.toNat { r with hold := false } }
            []).replyDone 0x53#8 tag (flag8 r.hold))) ∧
      (∀ x rest p l level, r.state = .loading → r.hold = true → (u.floor.deck d.toNat).slots = x :: rest →
        x.entry.status = .planned → (u.floor.deck d.toNat).countOf .released = 0 → 1 ≤ e.batch →
        e.batch = 1 ∨ rest = [] → u.floor.pallets.get x.entry.ref = some p → p.state = .inLane →
        p.loc = some (.floor l) → level = (if r.marginMark then 6 else 5) →
        (u.floor.tasks.size < 1024 →
          exec (.freeLoad tag [d]) s =
            .next ((u.withFloor { u.floor with
                departures := u.floor.departures.put d.toNat { r with hold := false }
                decks := u.floor.decks.put d.toNat ((u.floor.deck d.toNat).shift x.entry.ref .planned .released)
                tasks := u.floor.tasks.put u.floor.allocId
                  (newTask .load level (.floor l) (.trailer d.toNat x.pos x.tier) [x.entry.ref] 1 (some d.toNat))
                nextId := if 65535 ≤ u.floor.allocId then 1 else u.floor.allocId + 1
                queues := u.floor.queues.set [] level (u.floor.queue level ++ [u.floor.allocId]) }
              []).replyDone 0x53#8 tag (flag8 r.hold))) ∧
        (1024 ≤ u.floor.tasks.size →
          ∃ f : Floor, exec (.freeLoad tag [d]) s = .next ((u.withFloor f []).replyDone 0x53#8 tag (flag8 r.hold)) ∧
            f.departures.get d.toNat = some { r with hold := false, stalled := true } ∧
            (∀ k, k ≠ d.toNat → f.departures.get k = u.floor.departures.get k) ∧
            { u.floor with departures := f.departures } = f)))

/-- ABORT LOAD and RESUME LOAD, R45, R46: with no release to withdraw, a LOADING or LOADED departure becomes STOPPED with
its note, or STOPPING while a task of it is ISSUED; a STOPPED departure with an empty deck becomes LOADING again, with no
note. Other states are refused with STATE. -/
def Obligations.AbortAndResumeStopAndGoOn : Prop :=
  ∀ (s u : State) (tag d : Byte) (e : DepartureEntry) (r : Departure), 1 ≤ d.toNat → d.toNat ≤ 48 →
    u.clock.isOpen = true → u.plan.active.departures.get d.toNat = some e →
    u.floor.departures.get d.toNat = some r →
    (s.taken { kind := 0x54#8, tag := tag, body := [d] } = some u →
      (r.state ≠ .loading → r.state ≠ .loaded →
        exec (.abortLoad tag [d]) s = .next (u.replyRefused 0x54#8 tag .state)) ∧
      (r.state = .loading ∨ r.state = .loaded → u.floor.unissued d.toNat = [] →
        (u.floor.issuedLoads d.toNat = 0 →
          ∃ f : Floor, exec (.abortLoad tag [d]) s =
              .next ((u.withFloor f [u.report d.toNat (.departure .stopped (u.floor.deck d.toNat).w
                (u.floor.deck d.toNat).k (u.floor.deck d.toNat).b)]).replyDone 0x54#8 tag [0#8, 6#8]) ∧
            f.departures.get d.toNat = some { r with stalled := false, state := .stopped } ∧
            (∀ k, k ≠ d.toNat → f.departures.get k = u.floor.departures.get k) ∧
            { u.floor with departures := f.departures } = f) ∧
        (u.floor.issuedLoads d.toNat ≠ 0 →
          ∃ f : Floor, exec (.abortLoad tag [d]) s = .next ((u.withFloor f []).replyDone 0x54#8 tag [0#8, 5#8]) ∧
            f.departures.get d.toNat = some { r with stalled := false, state := .stopping } ∧
            (∀ k, k ≠ d.toNat → f.departures.get k = u.floor.departures.get k) ∧
            { u.floor with departures := f.departures } = f))) ∧
    (s.taken { kind := 0x55#8, tag := tag, body := [d] } = some u →
      (r.state ≠ .stopped → exec (.resumeLoad tag [d]) s = .next (u.replyRefused 0x55#8 tag .state)) ∧
      (∀ n, r.state = .stopped → u.floor.deck d.toNat = Deck.blank n →
        exec (.resumeLoad tag [d]) s =
          .next ((u.withFloor { u.floor with departures := u.floor.departures.put d.toNat { r with state := .loading } }
            []).replyDone 0x55#8 tag [3#8, 0#8])))

/-- DEPART of a CUT departure that holds its door and whose every entry is LOADED, R50, R25, R122: the pallets aboard are
freed, the deck is empty, the departure is CLOSED with the current minute, the door is in CHANGEOVER until the gap has
run, and CLOSED is queued with the totals. A departure PLANNED, WAITING DOOR or CLOSED is refused with STATE. -/
def Obligations.DepartClosesAndStartsTheChangeover : Prop :=
  ∀ (s u : State) (tag d : Byte) (e : DepartureEntry) (r : Departure),
    s.taken { kind := 0x56#8, tag := tag, body := [d] } = some u → 1 ≤ d.toNat → d.toNat ≤ 48 → u.clock.isOpen = true →
    u.plan.active.departures.get d.toNat = some e → u.floor.departures.get d.toNat = some r →
    (r.state = .planned ∨ r.state = .waitingDoor ∨ r.state = .closed →
      exec (.depart tag [d]) s = .next (u.replyRefused 0x56#8 tag .state)) ∧
    (∀ dk : Deck, r.state = .cut → r.doorTaken = true → u.floor.deck d.toNat = dk →
      (∀ x ∈ dk.slots, x.entry.status = .loaded) → 0 < (u.plan.active.doorEntry e.door).gap →
      ∃ f : Floor, exec (.depart tag [d]) s =
          .next ((u.withFloor f [u.report d.toNat (.departure (.closed dk.slots.length 0) dk.w dk.k dk.b)]).replyDone
            0x56#8 tag (le16 dk.w ++ le16 dk.k ++ le16 dk.b ++ le8 dk.slots.length ++ [0#8] ++ le8 r.removedAtCut)) ∧
        f.departures.get d.toNat = some { r with
          hold := false, stalled := false, departMinute := some u.clock.minute, state := .closed, doorTaken := false } ∧
        (∀ k, k ≠ d.toNat → f.departures.get k = u.floor.departures.get k) ∧
        f.deck d.toNat = Deck.blank dk.places.length ∧ (∀ k, k ≠ d.toNat → f.deck k = u.floor.deck k) ∧
        (∀ x ∈ dk.slots, f.pallets.get x.entry.ref = none) ∧
        (∀ ref, (∀ x ∈ dk.slots, x.entry.ref ≠ ref) → f.pallets.get ref = u.floor.pallets.get ref) ∧
        (f.door e.door).underlying = .changeover (u.clock.minute + (u.plan.active.doorEntry e.door).gap) ∧
        (∀ k, k ≠ e.door → f.door k = u.floor.door k) ∧
        f.tips = u.floor.tips ∧ f.waiting = u.floor.waiting ∧ f.lanes = u.floor.lanes ∧ f.queues = u.floor.queues ∧
        f.issued = u.floor.issued ∧ f.backlog = u.floor.backlog ∧ f.nextId = u.floor.nextId ∧
        f.movers = u.floor.movers ∧ f.dispatchHold = u.floor.dispatchHold)

/-- The timed events of a departure whose turn it is, R29, R31, R41, R47: a call of a PLANNED departure whose OUTBOUND door
is FAULTED makes it WAITING DOOR at the tail of the waiting list with its note; of a departure already called it sets the
mark alone; a late-margin event sets the mark, and with no QUEUED task of the departure at level 5 that is all; a cut of a
departure CUT or CLOSED sets the mark alone, and one of a departure with an empty deck makes it CUT with its note. What
counts as an event's turn among the works of a minute, and that departure control goes on with its next due event before
another block begins (`State.workLeft`), is the model's choice (log 3, 5). So is that a cut-off, and the call event of a
departure not PLANNED, which set the call mark, keep the called minute as it was, absent where no call was made (R28; log
33). A call that takes its door, QUEUED tasks at level 5 and decks that are not empty are left out here. -/
def Obligations.DueEventsActOnTheirDeparture : Prop :=
  ∀ (s : State) (d : Nat) (r : Departure), s.floor.departures.get d = some r → s.toRun.mayTake .departures = true →
    (∀ e, s.toRun.firstDue = some (d, .call) → r.state = .planned → s.plan.active.departures.get d = some e →
      (s.plan.active.doorEntry e.door).role = .outbound → (s.floor.door e.door).faulted = true →
      ∃ f : Floor, exec (.callEvent d) s =
          .next { s.withFloor f [s.report d (.departure (.deferred .faulted) (s.floor.deck d).w (s.floor.deck d).k
            (s.floor.deck d).b)] with work := s.workLeft f .departures .departures } ∧
        f.departures.get d = some { r with
          callMark := true, calledMinute := some s.clock.minute, state := .waitingDoor } ∧
        (∀ k, k ≠ d → f.departures.get k = s.floor.departures.get k) ∧ f.waiting = s.floor.waiting ++ [d] ∧
        { s.floor with departures := f.departures, waiting := f.waiting } = f) ∧
    (s.toRun.firstDue = some (d, .call) → r.state ≠ .planned →
      ∀ f : Floor, f = { s.floor with departures := s.floor.departures.put d { r with callMark := true } } →
        exec (.callEvent d) s = .next { s.withFloor f [] with work := s.workLeft f .departures .departures }) ∧
    (s.toRun.firstDue = some (d, .margin) → (∀ id ∈ s.floor.queue 5, (s.floor.tasks.get id).bind (·.dep) ≠ some d) →
      ∀ f : Floor, f = { s.floor with departures := s.floor.departures.put d { r with marginMark := true } } →
        exec (.lateMarginEvent d) s = .next { s.withFloor f [] with work := s.workLeft f .departures .departures }) ∧
    (s.toRun.firstDue = some (d, .cut) →
      (r.state = .cut ∨ r.state = .closed →
        ∀ f : Floor, f = { s.floor with departures := s.floor.departures.put d { r with cutMark := true } } →
          exec (.cutEvent d) s = .next { s.withFloor f [] with work := s.workLeft f .departures .departures }) ∧
      (∀ n, r.state ≠ .cut → r.state ≠ .closed → s.floor.deck d = Deck.blank n →
        ∃ f : Floor, exec (.cutEvent d) s =
            .next { s.withFloor f [s.report d (.departure (.cut 0) 0 0 0)] with
              work := s.workLeft f .departures .departures } ∧
          f.departures.get d = some { r with
            callMark := true, marginMark := true, cutMark := true, stalled := false, removedAtCut := 0, state := .cut } ∧
          (∀ k, k ≠ d → f.departures.get k = s.floor.departures.get k) ∧
          f.waiting = s.floor.waiting.filter (· ≠ d) ∧
          { s.floor with departures := f.departures, waiting := f.waiting } = f))

/-! ## Doors -/

/-- DOOR FAULT and DOOR CLEAR, R124, R126, in any night state and for every door: the fault sets condition, FAULTED and the
fault minute and leaves what the door is doing; the clear clears the condition alone, and the reply says what releases a
FAULTED door. DOOR RESUME, R127: refused with STATE for a door that is not FAULTED or whose condition is set; otherwise
FAULTED is cleared and the fault minute kept. With no departure waiting, or the door not OUTBOUND-FREE, that is all. -/
def Obligations.DoorFaultsAreSetClearedAndReleased : Prop :=
  (∀ (s u : State) (tag n : Byte), 1 ≤ n.toNat → n.toNat ≤ 32 →
    (s.taken { kind := 0x60#8, tag := tag, body := [n] } = some u →
      exec (.doorFault tag [n]) s =
        .next ((u.withFloor { u.floor with
              doors := u.floor.doors.set Door.reset n.toNat
                { underlying := (u.floor.door n.toNat).underlying, faulted := true, condition := true,
                  faultMinute := some u.clock.minute } } []).replyDone 0x60#8 tag
          (le8 (u.floor.door n.toNat).underlying.code ++ flag8 (u.floor.door n.toNat).condition))) ∧
    (s.taken { kind := 0x61#8, tag := tag, body := [n] } = some u →
      exec (.doorClear tag [n]) s =
        .next ((u.withFloor { u.floor with
              doors := u.floor.doors.set Door.reset n.toNat
                { u.floor.door n.toNat with condition := false } } []).replyDone 0x61#8 tag
          (flag8 (u.floor.door n.toNat).condition ++
            le8 (if (u.floor.door n.toNat).faulted then
              (match (u.plan.active.doorEntry n.toNat).mode with | .latched => 1 | .wave => 2) else 0))))) ∧
  (∀ (s u : State) (tag n : Byte), s.taken { kind := 0x62#8, tag := tag, body := [n] } = some u →
    1 ≤ n.toNat → n.toNat ≤ 32 →
    ((u.floor.door n.toNat).faulted = false ∨ (u.floor.door n.toNat).condition = true →
      exec (.doorResume tag [n]) s = .next (u.replyRefused 0x62#8 tag .state)) ∧
    ((u.floor.door n.toNat).faulted = true → (u.floor.door n.toNat).condition = false →
      u.floor.waiting = [] ∨ (u.floor.door n.toNat).underlying ≠ .outboundFree →
      exec (.doorResume tag [n]) s =
        .next ((u.withFloor { u.floor with
              doors := u.floor.doors.set Door.reset n.toNat
                { u.floor.door n.toNat with faulted := false } } []).replyDone 0x62#8 tag
          (le8 (u.floor.door n.toNat).underlying.code ++ [0#8]))))

/-- CHANGEOVER END of a door whose end minute has come and for which no departure waits, R123: the door is OUTBOUND-FREE,
FAULTED or not as before, its changeover end is cleared, and nothing else of the floor changes. What counts as the door's
turn among the works of a minute is the model's choice (log 3, 5). The hand-over to a waiting departure is left out here. -/
def Obligations.ChangeoverEndFreesTheDoor : Prop :=
  ∀ (s : State) (n : Nat), s.toRun.mayTake .doors = true → s.floor.changeoverDue s.clock.minute n = true →
    (∀ d ∈ s.floor.waiting, ∀ e, s.plan.active.departures.get d = some e → e.door ≠ n) →
    ∀ f : Floor, f = { s.floor with
        doors := s.floor.doors.set Door.reset n { s.floor.door n with underlying := .outboundFree } } →
      exec (.changeoverEnd n) s = .next { s.withFloor f [] with work := s.workLeft f .doors .doors }

/-! ## Lanes -/

/-- WATCH LANES, R85, in any night state: for one lane in plan the limits are set or removed (255 for none), the high limit
lowered to the capacity, and no occupancy or alert changes; a lane not in plan is refused with UNKNOWN; for every lane the
reply has their number and each lane in plan gets the limits. The 0 byte in the reply for the high limit where the target is
every lane is the model's choice (log 8). -/
def Obligations.WatchLanesSetsTheLimits : Prop :=
  ∀ (s u : State) (tag target high low : Byte), s.taken { kind := 0x70#8, tag := tag, body := [target, high, low] } = some u →
    high.toNat = 255 ∨ 1 ≤ high.toNat ∧ high.toNat ≤ 40 → low.toNat = 255 ∨ low.toNat ≤ 39 →
    (2 ≤ target.toNat → target.toNat ≤ 65 →
      (u.plan.active.lanes.get target.toNat = none →
        exec (.watchLanes tag [target, high, low]) s = .next (u.replyRefused 0x70#8 tag .unknown)) ∧
      (∀ c, u.plan.active.lanes.get target.toNat = some c →
        exec (.watchLanes tag [target, high, low]) s =
          .next ((u.withFloor { u.floor with
              lanes := u.floor.lanes.set Lane.reset target.toNat
                { u.floor.lane target.toNat with
                  high := if high.toNat = 255 then none else some (min high.toNat c)
                  low := if low.toNat = 255 then none else some low.toNat } } []).replyDone 0x70#8 tag
            ([1#8] ++ le8 (if high.toNat = 255 then 255 else min high.toNat c))))) ∧
    (target.toNat = 255 →
      ∃ f : Floor, exec (.watchLanes tag [target, high, low]) s =
          .next ((u.withFloor f []).replyDone 0x70#8 tag (le8 u.plan.active.lanes.size ++ [0#8])) ∧
        (∀ l c, u.plan.active.lanes.get l = some c →
          f.lane l = { u.floor.lane l with
            high := if high.toNat = 255 then none else some (min high.toNat c)
            low := if low.toNat = 255 then none else some low.toNat }) ∧
        (∀ l, u.plan.active.lanes.get l = none → f.lane l = u.floor.lane l) ∧
        { u.floor with lanes := f.lanes } = f)

/-- ACK ALERT, R88: FORMAT, RANGE, STATE for a lane with no pending alert, and otherwise, in any night state, the alert is
removed and reported. A crossing makes a record with a LANE ALERT where none is pending and otherwise raises the merged
count, to 255, alone (R87); a rise to the high limit and a fall to the low limit cross (R86). -/
def Obligations.AlertsMergeUntilAcknowledged : Prop :=
  (∀ (s u : State) (tag : Byte) (body : List Byte), s.taken { kind := 0x71#8, tag := tag, body := body } = some u →
    (body.length ≠ 1 → exec (.ackAlert tag body) s = .next (u.replyRefused 0x71#8 tag .format)) ∧
    (∀ l : Byte, body = [l] →
      (l.toNat < 2 ∨ 65 < l.toNat → exec (.ackAlert tag body) s = .next (u.replyRefused 0x71#8 tag .range)) ∧
      (2 ≤ l.toNat → l.toNat ≤ 65 →
        ((u.floor.lane l.toNat).alert = none →
          exec (.ackAlert tag body) s = .next (u.replyRefused 0x71#8 tag .state)) ∧
        (∀ a, (u.floor.lane l.toNat).alert = some a →
          exec (.ackAlert tag body) s =
            .next ((u.withFloor { u.floor with
                lanes := u.floor.lanes.set Lane.reset l.toNat
                  { u.floor.lane l.toNat with alert := none } } []).replyDone 0x71#8 tag
              (le8 a.kind.code ++ le16 a.minute ++ le8 a.merged)))))) ∧
  (∀ (y : Yard) (env : Env) (before : Floor) (l limit : Nat) (kind : AlertKind),
    (y.lane l).crossed (before.occupancy l) (y.occupancy l) = some (kind, limit) →
    ((y.lane l).alert = none →
      ((y.watchLane env before l).lane l).alert = some { kind := kind, minute := env.minute, merged := 0 } ∧
      (y.watchLane env before l).notes = y.notes ++
        [{ minute := env.minute, object := l, droppedBefore := 0,
           note := .lane kind (y.occupancy l) limit (y.lane l).present.length (y.lane l).incoming 0 }]) ∧
    (∀ a, (y.lane l).alert = some a →
      ((y.watchLane env before l).lane l).alert = some { a with merged := min 255 (a.merged + 1) } ∧
      (y.watchLane env before l).notes = y.notes)) ∧
  (∀ (r : Lane) (b a limit : Nat),
    (r.crossed b a = some (.high, limit) ↔ r.high = some limit ∧ b < limit ∧ limit ≤ a) ∧
    (r.crossed b a = some (.low, limit) ↔ r.low = some limit ∧ limit < b ∧ a ≤ limit))

/-! ## What every step keeps -/

/-- Every step keeps the link within its sizes and counts, R169, R170, R174 to R176: at most 4 waiting frames of at most 240
body bytes, a frame under assembly that fits its length, at most 64 reports, counts to 65535. -/
def Obligations.EveryStepKeepsTheLinkWithin : Prop :=
  ∀ s t : State, s.link.within = true → step s = .next t → t.link.within = true

/-- Every step keeps the clock within the ranges of R153, and an open night at minute 1440 has reached its end or has its
END_REACHED still to come, R156. -/
def Obligations.EveryStepKeepsTheClockWithin : Prop :=
  ∀ s t : State, s.clockWithin = true → step s = .next t → t.clockWithin = true

/-- Every step keeps every table of the state in its canonical form: one record for each number, in rising order. -/
def Obligations.EveryStepKeepsTheTablesRising : Prop :=
  ∀ s t : State, s.tablesRise = true → step s = .next t → t.tablesRise = true

/-- Every step keeps what the manual says of labels and of the pool: no two live records have one label (R55); the pool holds
at most 1024 tasks (R92); a QUEUED task stands once in the queue of its own level and in no other, an ISSUED one in none and
once in the order of issue (R95, R110), with its mover as its last mover (R101); and no task is current on two movers, since
a BUSY mover's task names that mover (R97). The tables have their canonical form (`EveryStepKeepsTheTablesRising`). -/
def Obligations.EveryStepKeepsLabelsAndPool : Prop :=
  ∀ s t : State, s.tablesRise = true → s.floor.labelsDiffer = true → s.floor.poolAgrees = true → step s = .next t →
    t.floor.labelsDiffer = true ∧ t.floor.poolAgrees = true

/-- The state after a full reset, R152, R165, R179, meets every invariant above: link, clock, tables, labels and pool. -/
def Obligations.ResetIsWithinAllBounds : Prop :=
  State.reset.link.within = true ∧ State.reset.clockWithin = true ∧ State.reset.tablesRise = true ∧
    State.reset.floor.labelsDiffer = true ∧ State.reset.floor.poolAgrees = true
end

