-- ==== Sys2Proof/Laws/Table.lean ====
section
/-! SUPPORT. What the operations of `Tab` do: what is read after a write, and that each keeps the keys rising. -/

namespace Sys2Proof.Machine

section Cells

variable {α : Type}

theorem cellGet_put_same (cells : List (Nat × α)) (k : Nat) (v : α) : cellGet (cellPut cells k v) k = some v := by
  induction cells with
  | nil => simp [cellPut, cellGet]
  | cons c rest ih =>
    obtain ⟨j, u⟩ := c
    by_cases h1 : k < j
    · simp [cellPut, cellGet, h1]
    · by_cases h2 : j = k
      · simp [cellPut, cellGet, h2]
      · simp [cellPut, cellGet, h1, h2, ih]

theorem cellGet_put_other (cells : List (Nat × α)) {i k : Nat} (v : α) (h : i ≠ k) :
    cellGet (cellPut cells k v) i = cellGet cells i := by
  induction cells with
  | nil => simp [cellPut, cellGet, Ne.symm h]
  | cons c rest ih =>
    obtain ⟨j, u⟩ := c
    by_cases h1 : k < j
    · simp [cellPut, cellGet, h1, Ne.symm h]
    · by_cases h2 : j = k
      · subst h2; simp [cellPut, cellGet, Ne.symm h]
      · simp [cellPut, cellGet, h1, h2, ih]

theorem cellGet_erase_same (cells : List (Nat × α)) (k : Nat) : cellGet (cellErase cells k) k = none := by
  induction cells with
  | nil => rfl
  | cons c rest ih =>
    obtain ⟨j, u⟩ := c
    by_cases h : j = k <;> simp [cellErase, cellGet, h, ih]

theorem cellGet_erase_other (cells : List (Nat × α)) {i k : Nat} (h : i ≠ k) :
    cellGet (cellErase cells k) i = cellGet cells i := by
  induction cells with
  | nil => rfl
  | cons c rest ih =>
    obtain ⟨j, u⟩ := c
    by_cases h1 : j = k
    · subst h1; simp [cellErase, cellGet, Ne.symm h, ih]
    · simp [cellErase, cellGet, h1, ih]

/-- The cells' keys rise and all lie above `b`. -/
def risesAbove (b : Nat) : List (Nat × α) → Prop
  | [] => True
  | (j, _) :: rest => b < j ∧ risesAbove j rest

theorem risesAbove_weaken {a b : Nat} (hab : a ≤ b) : ∀ {cells : List (Nat × α)}, risesAbove b cells → risesAbove a cells
  | [], _ => trivial
  | (_, _) :: _, h => ⟨Nat.lt_of_le_of_lt hab h.1, h.2⟩

/-- The Bool form of rising keys and the inductive one agree. -/
theorem cellsRise_cons (j : Nat) (v : α) (rest : List (Nat × α)) :
    cellsRise ((j, v) :: rest) = true ↔ risesAbove j rest := by
  induction rest generalizing j v with
  | nil => simp [cellsRise, risesAbove]
  | cons c rest ih =>
    obtain ⟨k, w⟩ := c
    have := ih k w
    simp only [cellsRise, risesAbove, Bool.and_eq_true, decide_eq_true_eq] at this ⊢
    rw [this]

theorem risesAbove_put {b k : Nat} (v : α) (hk : b < k) :
    ∀ {cells : List (Nat × α)}, risesAbove b cells → risesAbove b (cellPut cells k v)
  | [], _ => ⟨hk, trivial⟩
  | (j, u) :: rest, h => by
    obtain ⟨hbj, hrest⟩ := h
    by_cases h1 : k < j
    · simp [cellPut, h1, risesAbove, hk, hrest]
    · by_cases h2 : j = k
      · subst h2; simp [cellPut, risesAbove, hk, hrest]
      · have hjk : j < k := by omega
        simp [cellPut, h1, h2, risesAbove, hbj, risesAbove_put v hjk hrest]

theorem risesAbove_erase {b : Nat} (k : Nat) :
    ∀ {cells : List (Nat × α)}, risesAbove b cells → risesAbove b (cellErase cells k)
  | [], _ => trivial
  | (j, u) :: rest, h => by
    obtain ⟨hbj, hrest⟩ := h
    by_cases h1 : j = k
    · simp [cellErase, h1]; exact risesAbove_weaken (le_of_lt hbj) (h1 ▸ risesAbove_erase k hrest)
    · simp [cellErase, h1, risesAbove, hbj, risesAbove_erase k hrest]

theorem cellsRise_iff_above (cells : List (Nat × α)) :
    cellsRise cells = true ↔ ∀ j v rest, cells = (j, v) :: rest → risesAbove j rest := by
  cases cells with
  | nil => simp [cellsRise]
  | cons c rest =>
    obtain ⟨j, v⟩ := c
    rw [cellsRise_cons]
    constructor
    · rintro h j' v' rest' ⟨⟩; exact h
    · exact fun h => h j v rest rfl

theorem cellsRise_put (cells : List (Nat × α)) (k : Nat) (v : α) (h : cellsRise cells = true) :
    cellsRise (cellPut cells k v) = true := by
  cases cells with
  | nil => simp [cellPut, cellsRise]
  | cons c rest =>
    obtain ⟨j, u⟩ := c
    rw [cellsRise_cons] at h
    by_cases h1 : k < j
    · simp only [cellPut, h1, ↓reduceIte, cellsRise_cons, risesAbove]; exact ⟨trivial, h⟩
    · by_cases h2 : j = k
      · subst h2; simp only [cellPut, h1, ↓reduceIte, cellsRise_cons]; exact h
      · simp only [cellPut, h1, h2, ↓reduceIte, cellsRise_cons]; exact risesAbove_put v (by omega) h

theorem cellsRise_of_above {b : Nat} {cells : List (Nat × α)} (h : risesAbove b cells) : cellsRise cells = true := by
  cases cells with
  | nil => rfl
  | cons c rest => obtain ⟨j, v⟩ := c; exact (cellsRise_cons j v rest).2 h.2

theorem cellsRise_erase (cells : List (Nat × α)) (k : Nat) (h : cellsRise cells = true) :
    cellsRise (cellErase cells k) = true := by
  cases cells with
  | nil => rfl
  | cons c rest =>
    obtain ⟨j, u⟩ := c
    rw [cellsRise_cons] at h
    by_cases h1 : j = k
    · simp only [cellErase, h1, ↓reduceIte]; exact cellsRise_of_above (risesAbove_erase k h)
    · simp only [cellErase, h1, ↓reduceIte, cellsRise_cons]; exact risesAbove_erase k h

/-- Cells with changed values have the same keys, so they rise as before. -/
theorem risesAbove_map {β : Type} (g : Nat × α → β) {b : Nat} :
    ∀ {cells : List (Nat × α)}, risesAbove b cells → risesAbove b (cells.map fun c => (c.1, g c))
  | [], _ => trivial
  | (_, _) :: _, h => ⟨h.1, risesAbove_map g h.2⟩

theorem cellsRise_map {β : Type} (g : Nat × α → β) (cells : List (Nat × α)) (h : cellsRise cells = true) :
    cellsRise (cells.map fun c => (c.1, g c)) = true := by
  cases cells with
  | nil => rfl
  | cons c rest =>
    obtain ⟨j, v⟩ := c
    rw [cellsRise_cons] at h
    exact (cellsRise_cons _ _ _).2 (risesAbove_map g h)

theorem risesAbove_filter (p : Nat × α → Bool) {b : Nat} :
    ∀ {cells : List (Nat × α)}, risesAbove b cells → risesAbove b (cells.filter p)
  | [], _ => trivial
  | (j, v) :: rest, h => by
    by_cases hp : p (j, v) = true
    · simp only [List.filter_cons, hp, ↓reduceIte]; exact ⟨h.1, risesAbove_filter p h.2⟩
    · simp only [List.filter_cons, hp]; exact risesAbove_weaken (le_of_lt h.1) (risesAbove_filter p h.2)

theorem cellsRise_filter (p : Nat × α → Bool) (cells : List (Nat × α)) (h : cellsRise cells = true) :
    cellsRise (cells.filter p) = true := by
  cases cells with
  | nil => rfl
  | cons c rest =>
    obtain ⟨j, v⟩ := c
    rw [cellsRise_cons] at h
    by_cases hp : p (j, v) = true
    · simp only [List.filter_cons, hp, ↓reduceIte]; exact (cellsRise_cons _ _ _).2 (risesAbove_filter p h)
    · simp only [List.filter_cons, hp]; exact cellsRise_of_above (risesAbove_filter p h)

end Cells

section Tables

variable {α : Type}

@[simp] theorem Tab.get_empty (k : Nat) : (Tab.empty : Tab α).get k = none := rfl
@[simp] theorem Tab.keys_empty : (Tab.empty : Tab α).keys = [] := rfl
@[simp] theorem Tab.values_empty : (Tab.empty : Tab α).values = [] := rfl
@[simp] theorem Tab.size_empty : (Tab.empty : Tab α).size = 0 := rfl
@[simp] theorem Tab.at_empty (d : α) (k : Nat) : Tab.at d .empty k = d := rfl
@[simp] theorem Tab.wf_empty : (Tab.empty : Tab α).wf = true := rfl

@[simp] theorem Tab.get_put_same (t : Tab α) (k : Nat) (v : α) : (t.put k v).get k = some v :=
  cellGet_put_same t.cells k v

theorem Tab.get_put_other (t : Tab α) {i k : Nat} (v : α) (h : i ≠ k) : (t.put k v).get i = t.get i :=
  cellGet_put_other t.cells v h

@[simp] theorem Tab.get_erase_same (t : Tab α) (k : Nat) : (t.erase k).get k = none := cellGet_erase_same t.cells k

theorem Tab.get_erase_other (t : Tab α) {i k : Nat} (h : i ≠ k) : (t.erase k).get i = t.get i :=
  cellGet_erase_other t.cells h

@[simp] theorem Tab.get_modify_same (t : Tab α) (k : Nat) (g : α → α) : (t.modify k g).get k = (t.get k).map g := by
  unfold Tab.modify; cases h : t.get k <;> simp [h]

theorem Tab.get_modify_other (t : Tab α) {i k : Nat} (g : α → α) (h : i ≠ k) : (t.modify k g).get i = t.get i := by
  unfold Tab.modify; cases t.get k <;> simp [Tab.get_put_other, h]

@[simp] theorem Tab.at_set_same [DecidableEq α] (d : α) (t : Tab α) (k : Nat) (v : α) :
    Tab.at d (Tab.set d t k v) k = v := by
  unfold Tab.at Tab.set; split <;> simp [*]

theorem Tab.at_set_other [DecidableEq α] (d : α) (t : Tab α) {i k : Nat} (v : α) (h : i ≠ k) :
    Tab.at d (Tab.set d t k v) i = Tab.at d t i := by
  unfold Tab.at Tab.set; split <;> simp [Tab.get_put_other, Tab.get_erase_other, h]

@[simp] theorem Tab.at_put_same (d : α) (t : Tab α) (k : Nat) (v : α) : Tab.at d (t.put k v) k = v := by simp [Tab.at]

theorem Tab.at_put_other (d : α) (t : Tab α) {i k : Nat} (v : α) (h : i ≠ k) : Tab.at d (t.put k v) i = Tab.at d t i := by
  simp [Tab.at, Tab.get_put_other, h]

/-! Every operation keeps the canonical form. -/

theorem Tab.wf_put (t : Tab α) (k : Nat) (v : α) (h : t.wf = true) : (t.put k v).wf = true := cellsRise_put _ k v h

theorem Tab.wf_erase (t : Tab α) (k : Nat) (h : t.wf = true) : (t.erase k).wf = true := cellsRise_erase _ k h

theorem Tab.wf_modify (t : Tab α) (k : Nat) (g : α → α) (h : t.wf = true) : (t.modify k g).wf = true := by
  unfold Tab.modify; cases t.get k <;> simp [h, Tab.wf_put]

theorem Tab.wf_set [DecidableEq α] (d : α) (t : Tab α) (k : Nat) (v : α) (h : t.wf = true) :
    (Tab.set d t k v).wf = true := by
  unfold Tab.set; split <;> simp [h, Tab.wf_put, Tab.wf_erase]

theorem Tab.wf_map {β : Type} (t : Tab α) (g : Nat × α → β) (h : t.wf = true) :
    (⟨t.cells.map fun c => (c.1, g c)⟩ : Tab β).wf = true := cellsRise_map g _ h

theorem Tab.wf_filter (t : Tab α) (p : Nat × α → Bool) (h : t.wf = true) : (⟨t.cells.filter p⟩ : Tab α).wf = true :=
  cellsRise_filter p _ h

end Tables

end Sys2Proof.Machine
end

