-- ==== Sys2Proof/Laws/State.lean ====
section
/-! SUPPORT. The record updates of the floor, of a run and of the whole state: one lemma per field and update, so that no
later proof unfolds an update. -/

namespace Sys2Proof.Machine

/-! ### `Yard.setPallet` -/

@[simp] theorem Yard.setPallet_pallets (y : Yard) (ref : Nat) (p : Pallet) :
    (y.setPallet ref p).pallets = y.pallets.put ref p := rfl
@[simp] theorem Yard.setPallet_tips (y : Yard) (ref : Nat) (p : Pallet) : (y.setPallet ref p).tips = y.tips := rfl
@[simp] theorem Yard.setPallet_decks (y : Yard) (ref : Nat) (p : Pallet) : (y.setPallet ref p).decks = y.decks := rfl
@[simp] theorem Yard.setPallet_departures (y : Yard) (ref : Nat) (p : Pallet) :
    (y.setPallet ref p).departures = y.departures := rfl
@[simp] theorem Yard.setPallet_waiting (y : Yard) (ref : Nat) (p : Pallet) :
    (y.setPallet ref p).waiting = y.waiting := rfl
@[simp] theorem Yard.setPallet_doors (y : Yard) (ref : Nat) (p : Pallet) : (y.setPallet ref p).doors = y.doors := rfl
@[simp] theorem Yard.setPallet_lanes (y : Yard) (ref : Nat) (p : Pallet) : (y.setPallet ref p).lanes = y.lanes := rfl
@[simp] theorem Yard.setPallet_tasks (y : Yard) (ref : Nat) (p : Pallet) : (y.setPallet ref p).tasks = y.tasks := rfl
@[simp] theorem Yard.setPallet_queues (y : Yard) (ref : Nat) (p : Pallet) : (y.setPallet ref p).queues = y.queues := rfl
@[simp] theorem Yard.setPallet_issued (y : Yard) (ref : Nat) (p : Pallet) : (y.setPallet ref p).issued = y.issued := rfl
@[simp] theorem Yard.setPallet_backlog (y : Yard) (ref : Nat) (p : Pallet) :
    (y.setPallet ref p).backlog = y.backlog := rfl
@[simp] theorem Yard.setPallet_nextId (y : Yard) (ref : Nat) (p : Pallet) : (y.setPallet ref p).nextId = y.nextId := rfl
@[simp] theorem Yard.setPallet_movers (y : Yard) (ref : Nat) (p : Pallet) : (y.setPallet ref p).movers = y.movers := rfl
@[simp] theorem Yard.setPallet_dispatchHold (y : Yard) (ref : Nat) (p : Pallet) :
    (y.setPallet ref p).dispatchHold = y.dispatchHold := rfl
@[simp] theorem Yard.setPallet_notes (y : Yard) (ref : Nat) (p : Pallet) : (y.setPallet ref p).notes = y.notes := rfl

/-! ### `Yard.modPallet` -/

@[simp] theorem Yard.modPallet_pallets (y : Yard) (ref : Nat) (g : Pallet → Pallet) :
    (y.modPallet ref g).pallets = y.pallets.modify ref g := rfl
@[simp] theorem Yard.modPallet_tips (y : Yard) (ref : Nat) (g : Pallet → Pallet) :
    (y.modPallet ref g).tips = y.tips := rfl
@[simp] theorem Yard.modPallet_decks (y : Yard) (ref : Nat) (g : Pallet → Pallet) :
    (y.modPallet ref g).decks = y.decks := rfl
@[simp] theorem Yard.modPallet_departures (y : Yard) (ref : Nat) (g : Pallet → Pallet) :
    (y.modPallet ref g).departures = y.departures := rfl
@[simp] theorem Yard.modPallet_waiting (y : Yard) (ref : Nat) (g : Pallet → Pallet) :
    (y.modPallet ref g).waiting = y.waiting := rfl
@[simp] theorem Yard.modPallet_doors (y : Yard) (ref : Nat) (g : Pallet → Pallet) :
    (y.modPallet ref g).doors = y.doors := rfl
@[simp] theorem Yard.modPallet_lanes (y : Yard) (ref : Nat) (g : Pallet → Pallet) :
    (y.modPallet ref g).lanes = y.lanes := rfl
@[simp] theorem Yard.modPallet_tasks (y : Yard) (ref : Nat) (g : Pallet → Pallet) :
    (y.modPallet ref g).tasks = y.tasks := rfl
@[simp] theorem Yard.modPallet_queues (y : Yard) (ref : Nat) (g : Pallet → Pallet) :
    (y.modPallet ref g).queues = y.queues := rfl
@[simp] theorem Yard.modPallet_issued (y : Yard) (ref : Nat) (g : Pallet → Pallet) :
    (y.modPallet ref g).issued = y.issued := rfl
@[simp] theorem Yard.modPallet_backlog (y : Yard) (ref : Nat) (g : Pallet → Pallet) :
    (y.modPallet ref g).backlog = y.backlog := rfl
@[simp] theorem Yard.modPallet_nextId (y : Yard) (ref : Nat) (g : Pallet → Pallet) :
    (y.modPallet ref g).nextId = y.nextId := rfl
@[simp] theorem Yard.modPallet_movers (y : Yard) (ref : Nat) (g : Pallet → Pallet) :
    (y.modPallet ref g).movers = y.movers := rfl
@[simp] theorem Yard.modPallet_dispatchHold (y : Yard) (ref : Nat) (g : Pallet → Pallet) :
    (y.modPallet ref g).dispatchHold = y.dispatchHold := rfl
@[simp] theorem Yard.modPallet_notes (y : Yard) (ref : Nat) (g : Pallet → Pallet) :
    (y.modPallet ref g).notes = y.notes := rfl

/-! ### `Yard.setTip` -/

@[simp] theorem Yard.setTip_pallets (y : Yard) (door : Nat) (t : Tip) : (y.setTip door t).pallets = y.pallets := rfl
@[simp] theorem Yard.setTip_tips (y : Yard) (door : Nat) (t : Tip) :
    (y.setTip door t).tips = y.tips.set Tip.clear door t := rfl
@[simp] theorem Yard.setTip_decks (y : Yard) (door : Nat) (t : Tip) : (y.setTip door t).decks = y.decks := rfl
@[simp] theorem Yard.setTip_departures (y : Yard) (door : Nat) (t : Tip) :
    (y.setTip door t).departures = y.departures := rfl
@[simp] theorem Yard.setTip_waiting (y : Yard) (door : Nat) (t : Tip) : (y.setTip door t).waiting = y.waiting := rfl
@[simp] theorem Yard.setTip_doors (y : Yard) (door : Nat) (t : Tip) : (y.setTip door t).doors = y.doors := rfl
@[simp] theorem Yard.setTip_lanes (y : Yard) (door : Nat) (t : Tip) : (y.setTip door t).lanes = y.lanes := rfl
@[simp] theorem Yard.setTip_tasks (y : Yard) (door : Nat) (t : Tip) : (y.setTip door t).tasks = y.tasks := rfl
@[simp] theorem Yard.setTip_queues (y : Yard) (door : Nat) (t : Tip) : (y.setTip door t).queues = y.queues := rfl
@[simp] theorem Yard.setTip_issued (y : Yard) (door : Nat) (t : Tip) : (y.setTip door t).issued = y.issued := rfl
@[simp] theorem Yard.setTip_backlog (y : Yard) (door : Nat) (t : Tip) : (y.setTip door t).backlog = y.backlog := rfl
@[simp] theorem Yard.setTip_nextId (y : Yard) (door : Nat) (t : Tip) : (y.setTip door t).nextId = y.nextId := rfl
@[simp] theorem Yard.setTip_movers (y : Yard) (door : Nat) (t : Tip) : (y.setTip door t).movers = y.movers := rfl
@[simp] theorem Yard.setTip_dispatchHold (y : Yard) (door : Nat) (t : Tip) :
    (y.setTip door t).dispatchHold = y.dispatchHold := rfl
@[simp] theorem Yard.setTip_notes (y : Yard) (door : Nat) (t : Tip) : (y.setTip door t).notes = y.notes := rfl

/-! ### `Yard.setDeck` -/

@[simp] theorem Yard.setDeck_pallets (y : Yard) (d : Nat) (k : Deck) : (y.setDeck d k).pallets = y.pallets := rfl
@[simp] theorem Yard.setDeck_tips (y : Yard) (d : Nat) (k : Deck) : (y.setDeck d k).tips = y.tips := rfl
@[simp] theorem Yard.setDeck_decks (y : Yard) (d : Nat) (k : Deck) : (y.setDeck d k).decks = y.decks.put d k := rfl
@[simp] theorem Yard.setDeck_departures (y : Yard) (d : Nat) (k : Deck) :
    (y.setDeck d k).departures = y.departures := rfl
@[simp] theorem Yard.setDeck_waiting (y : Yard) (d : Nat) (k : Deck) : (y.setDeck d k).waiting = y.waiting := rfl
@[simp] theorem Yard.setDeck_doors (y : Yard) (d : Nat) (k : Deck) : (y.setDeck d k).doors = y.doors := rfl
@[simp] theorem Yard.setDeck_lanes (y : Yard) (d : Nat) (k : Deck) : (y.setDeck d k).lanes = y.lanes := rfl
@[simp] theorem Yard.setDeck_tasks (y : Yard) (d : Nat) (k : Deck) : (y.setDeck d k).tasks = y.tasks := rfl
@[simp] theorem Yard.setDeck_queues (y : Yard) (d : Nat) (k : Deck) : (y.setDeck d k).queues = y.queues := rfl
@[simp] theorem Yard.setDeck_issued (y : Yard) (d : Nat) (k : Deck) : (y.setDeck d k).issued = y.issued := rfl
@[simp] theorem Yard.setDeck_backlog (y : Yard) (d : Nat) (k : Deck) : (y.setDeck d k).backlog = y.backlog := rfl
@[simp] theorem Yard.setDeck_nextId (y : Yard) (d : Nat) (k : Deck) : (y.setDeck d k).nextId = y.nextId := rfl
@[simp] theorem Yard.setDeck_movers (y : Yard) (d : Nat) (k : Deck) : (y.setDeck d k).movers = y.movers := rfl
@[simp] theorem Yard.setDeck_dispatchHold (y : Yard) (d : Nat) (k : Deck) :
    (y.setDeck d k).dispatchHold = y.dispatchHold := rfl
@[simp] theorem Yard.setDeck_notes (y : Yard) (d : Nat) (k : Deck) : (y.setDeck d k).notes = y.notes := rfl

/-! ### `Yard.modDep` -/

@[simp] theorem Yard.modDep_pallets (y : Yard) (d : Nat) (g : Departure → Departure) :
    (y.modDep d g).pallets = y.pallets := rfl
@[simp] theorem Yard.modDep_tips (y : Yard) (d : Nat) (g : Departure → Departure) : (y.modDep d g).tips = y.tips := rfl
@[simp] theorem Yard.modDep_decks (y : Yard) (d : Nat) (g : Departure → Departure) :
    (y.modDep d g).decks = y.decks := rfl
@[simp] theorem Yard.modDep_departures (y : Yard) (d : Nat) (g : Departure → Departure) :
    (y.modDep d g).departures = y.departures.modify d g := rfl
@[simp] theorem Yard.modDep_waiting (y : Yard) (d : Nat) (g : Departure → Departure) :
    (y.modDep d g).waiting = y.waiting := rfl
@[simp] theorem Yard.modDep_doors (y : Yard) (d : Nat) (g : Departure → Departure) :
    (y.modDep d g).doors = y.doors := rfl
@[simp] theorem Yard.modDep_lanes (y : Yard) (d : Nat) (g : Departure → Departure) :
    (y.modDep d g).lanes = y.lanes := rfl
@[simp] theorem Yard.modDep_tasks (y : Yard) (d : Nat) (g : Departure → Departure) :
    (y.modDep d g).tasks = y.tasks := rfl
@[simp] theorem Yard.modDep_queues (y : Yard) (d : Nat) (g : Departure → Departure) :
    (y.modDep d g).queues = y.queues := rfl
@[simp] theorem Yard.modDep_issued (y : Yard) (d : Nat) (g : Departure → Departure) :
    (y.modDep d g).issued = y.issued := rfl
@[simp] theorem Yard.modDep_backlog (y : Yard) (d : Nat) (g : Departure → Departure) :
    (y.modDep d g).backlog = y.backlog := rfl
@[simp] theorem Yard.modDep_nextId (y : Yard) (d : Nat) (g : Departure → Departure) :
    (y.modDep d g).nextId = y.nextId := rfl
@[simp] theorem Yard.modDep_movers (y : Yard) (d : Nat) (g : Departure → Departure) :
    (y.modDep d g).movers = y.movers := rfl
@[simp] theorem Yard.modDep_dispatchHold (y : Yard) (d : Nat) (g : Departure → Departure) :
    (y.modDep d g).dispatchHold = y.dispatchHold := rfl
@[simp] theorem Yard.modDep_notes (y : Yard) (d : Nat) (g : Departure → Departure) :
    (y.modDep d g).notes = y.notes := rfl

/-! ### `Yard.setDoor` -/

@[simp] theorem Yard.setDoor_pallets (y : Yard) (n : Nat) (r : Door) : (y.setDoor n r).pallets = y.pallets := rfl
@[simp] theorem Yard.setDoor_tips (y : Yard) (n : Nat) (r : Door) : (y.setDoor n r).tips = y.tips := rfl
@[simp] theorem Yard.setDoor_decks (y : Yard) (n : Nat) (r : Door) : (y.setDoor n r).decks = y.decks := rfl
@[simp] theorem Yard.setDoor_departures (y : Yard) (n : Nat) (r : Door) :
    (y.setDoor n r).departures = y.departures := rfl
@[simp] theorem Yard.setDoor_waiting (y : Yard) (n : Nat) (r : Door) : (y.setDoor n r).waiting = y.waiting := rfl
@[simp] theorem Yard.setDoor_doors (y : Yard) (n : Nat) (r : Door) :
    (y.setDoor n r).doors = y.doors.set Door.reset n r := rfl
@[simp] theorem Yard.setDoor_lanes (y : Yard) (n : Nat) (r : Door) : (y.setDoor n r).lanes = y.lanes := rfl
@[simp] theorem Yard.setDoor_tasks (y : Yard) (n : Nat) (r : Door) : (y.setDoor n r).tasks = y.tasks := rfl
@[simp] theorem Yard.setDoor_queues (y : Yard) (n : Nat) (r : Door) : (y.setDoor n r).queues = y.queues := rfl
@[simp] theorem Yard.setDoor_issued (y : Yard) (n : Nat) (r : Door) : (y.setDoor n r).issued = y.issued := rfl
@[simp] theorem Yard.setDoor_backlog (y : Yard) (n : Nat) (r : Door) : (y.setDoor n r).backlog = y.backlog := rfl
@[simp] theorem Yard.setDoor_nextId (y : Yard) (n : Nat) (r : Door) : (y.setDoor n r).nextId = y.nextId := rfl
@[simp] theorem Yard.setDoor_movers (y : Yard) (n : Nat) (r : Door) : (y.setDoor n r).movers = y.movers := rfl
@[simp] theorem Yard.setDoor_dispatchHold (y : Yard) (n : Nat) (r : Door) :
    (y.setDoor n r).dispatchHold = y.dispatchHold := rfl
@[simp] theorem Yard.setDoor_notes (y : Yard) (n : Nat) (r : Door) : (y.setDoor n r).notes = y.notes := rfl

/-! ### `Yard.setLane` -/

@[simp] theorem Yard.setLane_pallets (y : Yard) (l : Nat) (r : Lane) : (y.setLane l r).pallets = y.pallets := rfl
@[simp] theorem Yard.setLane_tips (y : Yard) (l : Nat) (r : Lane) : (y.setLane l r).tips = y.tips := rfl
@[simp] theorem Yard.setLane_decks (y : Yard) (l : Nat) (r : Lane) : (y.setLane l r).decks = y.decks := rfl
@[simp] theorem Yard.setLane_departures (y : Yard) (l : Nat) (r : Lane) :
    (y.setLane l r).departures = y.departures := rfl
@[simp] theorem Yard.setLane_waiting (y : Yard) (l : Nat) (r : Lane) : (y.setLane l r).waiting = y.waiting := rfl
@[simp] theorem Yard.setLane_doors (y : Yard) (l : Nat) (r : Lane) : (y.setLane l r).doors = y.doors := rfl
@[simp] theorem Yard.setLane_lanes (y : Yard) (l : Nat) (r : Lane) :
    (y.setLane l r).lanes = y.lanes.set Lane.reset l r := rfl
@[simp] theorem Yard.setLane_tasks (y : Yard) (l : Nat) (r : Lane) : (y.setLane l r).tasks = y.tasks := rfl
@[simp] theorem Yard.setLane_queues (y : Yard) (l : Nat) (r : Lane) : (y.setLane l r).queues = y.queues := rfl
@[simp] theorem Yard.setLane_issued (y : Yard) (l : Nat) (r : Lane) : (y.setLane l r).issued = y.issued := rfl
@[simp] theorem Yard.setLane_backlog (y : Yard) (l : Nat) (r : Lane) : (y.setLane l r).backlog = y.backlog := rfl
@[simp] theorem Yard.setLane_nextId (y : Yard) (l : Nat) (r : Lane) : (y.setLane l r).nextId = y.nextId := rfl
@[simp] theorem Yard.setLane_movers (y : Yard) (l : Nat) (r : Lane) : (y.setLane l r).movers = y.movers := rfl
@[simp] theorem Yard.setLane_dispatchHold (y : Yard) (l : Nat) (r : Lane) :
    (y.setLane l r).dispatchHold = y.dispatchHold := rfl
@[simp] theorem Yard.setLane_notes (y : Yard) (l : Nat) (r : Lane) : (y.setLane l r).notes = y.notes := rfl

/-! ### `Yard.setMover` -/

@[simp] theorem Yard.setMover_pallets (y : Yard) (m : Nat) (r : Mover) : (y.setMover m r).pallets = y.pallets := rfl
@[simp] theorem Yard.setMover_tips (y : Yard) (m : Nat) (r : Mover) : (y.setMover m r).tips = y.tips := rfl
@[simp] theorem Yard.setMover_decks (y : Yard) (m : Nat) (r : Mover) : (y.setMover m r).decks = y.decks := rfl
@[simp] theorem Yard.setMover_departures (y : Yard) (m : Nat) (r : Mover) :
    (y.setMover m r).departures = y.departures := rfl
@[simp] theorem Yard.setMover_waiting (y : Yard) (m : Nat) (r : Mover) : (y.setMover m r).waiting = y.waiting := rfl
@[simp] theorem Yard.setMover_doors (y : Yard) (m : Nat) (r : Mover) : (y.setMover m r).doors = y.doors := rfl
@[simp] theorem Yard.setMover_lanes (y : Yard) (m : Nat) (r : Mover) : (y.setMover m r).lanes = y.lanes := rfl
@[simp] theorem Yard.setMover_tasks (y : Yard) (m : Nat) (r : Mover) : (y.setMover m r).tasks = y.tasks := rfl
@[simp] theorem Yard.setMover_queues (y : Yard) (m : Nat) (r : Mover) : (y.setMover m r).queues = y.queues := rfl
@[simp] theorem Yard.setMover_issued (y : Yard) (m : Nat) (r : Mover) : (y.setMover m r).issued = y.issued := rfl
@[simp] theorem Yard.setMover_backlog (y : Yard) (m : Nat) (r : Mover) : (y.setMover m r).backlog = y.backlog := rfl
@[simp] theorem Yard.setMover_nextId (y : Yard) (m : Nat) (r : Mover) : (y.setMover m r).nextId = y.nextId := rfl
@[simp] theorem Yard.setMover_movers (y : Yard) (m : Nat) (r : Mover) :
    (y.setMover m r).movers = y.movers.set Mover.reset m r := rfl
@[simp] theorem Yard.setMover_dispatchHold (y : Yard) (m : Nat) (r : Mover) :
    (y.setMover m r).dispatchHold = y.dispatchHold := rfl
@[simp] theorem Yard.setMover_notes (y : Yard) (m : Nat) (r : Mover) : (y.setMover m r).notes = y.notes := rfl

/-! ### `Yard.setQueue` -/

@[simp] theorem Yard.setQueue_pallets (y : Yard) (level : Nat) (q : List Nat) :
    (y.setQueue level q).pallets = y.pallets := rfl
@[simp] theorem Yard.setQueue_tips (y : Yard) (level : Nat) (q : List Nat) : (y.setQueue level q).tips = y.tips := rfl
@[simp] theorem Yard.setQueue_decks (y : Yard) (level : Nat) (q : List Nat) :
    (y.setQueue level q).decks = y.decks := rfl
@[simp] theorem Yard.setQueue_departures (y : Yard) (level : Nat) (q : List Nat) :
    (y.setQueue level q).departures = y.departures := rfl
@[simp] theorem Yard.setQueue_waiting (y : Yard) (level : Nat) (q : List Nat) :
    (y.setQueue level q).waiting = y.waiting := rfl
@[simp] theorem Yard.setQueue_doors (y : Yard) (level : Nat) (q : List Nat) :
    (y.setQueue level q).doors = y.doors := rfl
@[simp] theorem Yard.setQueue_lanes (y : Yard) (level : Nat) (q : List Nat) :
    (y.setQueue level q).lanes = y.lanes := rfl
@[simp] theorem Yard.setQueue_tasks (y : Yard) (level : Nat) (q : List Nat) :
    (y.setQueue level q).tasks = y.tasks := rfl
@[simp] theorem Yard.setQueue_queues (y : Yard) (level : Nat) (q : List Nat) :
    (y.setQueue level q).queues = y.queues.set [] level q := rfl
@[simp] theorem Yard.setQueue_issued (y : Yard) (level : Nat) (q : List Nat) :
    (y.setQueue level q).issued = y.issued := rfl
@[simp] theorem Yard.setQueue_backlog (y : Yard) (level : Nat) (q : List Nat) :
    (y.setQueue level q).backlog = y.backlog := rfl
@[simp] theorem Yard.setQueue_nextId (y : Yard) (level : Nat) (q : List Nat) :
    (y.setQueue level q).nextId = y.nextId := rfl
@[simp] theorem Yard.setQueue_movers (y : Yard) (level : Nat) (q : List Nat) :
    (y.setQueue level q).movers = y.movers := rfl
@[simp] theorem Yard.setQueue_dispatchHold (y : Yard) (level : Nat) (q : List Nat) :
    (y.setQueue level q).dispatchHold = y.dispatchHold := rfl
@[simp] theorem Yard.setQueue_notes (y : Yard) (level : Nat) (q : List Nat) :
    (y.setQueue level q).notes = y.notes := rfl

/-! ### `Yard.modTask` -/

@[simp] theorem Yard.modTask_pallets (y : Yard) (id : Nat) (g : Task → Task) :
    (y.modTask id g).pallets = y.pallets := rfl
@[simp] theorem Yard.modTask_tips (y : Yard) (id : Nat) (g : Task → Task) : (y.modTask id g).tips = y.tips := rfl
@[simp] theorem Yard.modTask_decks (y : Yard) (id : Nat) (g : Task → Task) : (y.modTask id g).decks = y.decks := rfl
@[simp] theorem Yard.modTask_departures (y : Yard) (id : Nat) (g : Task → Task) :
    (y.modTask id g).departures = y.departures := rfl
@[simp] theorem Yard.modTask_waiting (y : Yard) (id : Nat) (g : Task → Task) :
    (y.modTask id g).waiting = y.waiting := rfl
@[simp] theorem Yard.modTask_doors (y : Yard) (id : Nat) (g : Task → Task) : (y.modTask id g).doors = y.doors := rfl
@[simp] theorem Yard.modTask_lanes (y : Yard) (id : Nat) (g : Task → Task) : (y.modTask id g).lanes = y.lanes := rfl
@[simp] theorem Yard.modTask_tasks (y : Yard) (id : Nat) (g : Task → Task) :
    (y.modTask id g).tasks = y.tasks.modify id g := rfl
@[simp] theorem Yard.modTask_queues (y : Yard) (id : Nat) (g : Task → Task) : (y.modTask id g).queues = y.queues := rfl
@[simp] theorem Yard.modTask_issued (y : Yard) (id : Nat) (g : Task → Task) : (y.modTask id g).issued = y.issued := rfl
@[simp] theorem Yard.modTask_backlog (y : Yard) (id : Nat) (g : Task → Task) :
    (y.modTask id g).backlog = y.backlog := rfl
@[simp] theorem Yard.modTask_nextId (y : Yard) (id : Nat) (g : Task → Task) : (y.modTask id g).nextId = y.nextId := rfl
@[simp] theorem Yard.modTask_movers (y : Yard) (id : Nat) (g : Task → Task) : (y.modTask id g).movers = y.movers := rfl
@[simp] theorem Yard.modTask_dispatchHold (y : Yard) (id : Nat) (g : Task → Task) :
    (y.modTask id g).dispatchHold = y.dispatchHold := rfl
@[simp] theorem Yard.modTask_notes (y : Yard) (id : Nat) (g : Task → Task) : (y.modTask id g).notes = y.notes := rfl

/-! ### `Yard.note` -/

@[simp] theorem Yard.note_pallets (y : Yard) (env : Env) (object : Nat) (n : Note) :
    (y.note env object n).pallets = y.pallets := rfl
@[simp] theorem Yard.note_tips (y : Yard) (env : Env) (object : Nat) (n : Note) :
    (y.note env object n).tips = y.tips := rfl
@[simp] theorem Yard.note_decks (y : Yard) (env : Env) (object : Nat) (n : Note) :
    (y.note env object n).decks = y.decks := rfl
@[simp] theorem Yard.note_departures (y : Yard) (env : Env) (object : Nat) (n : Note) :
    (y.note env object n).departures = y.departures := rfl
@[simp] theorem Yard.note_waiting (y : Yard) (env : Env) (object : Nat) (n : Note) :
    (y.note env object n).waiting = y.waiting := rfl
@[simp] theorem Yard.note_doors (y : Yard) (env : Env) (object : Nat) (n : Note) :
    (y.note env object n).doors = y.doors := rfl
@[simp] theorem Yard.note_lanes (y : Yard) (env : Env) (object : Nat) (n : Note) :
    (y.note env object n).lanes = y.lanes := rfl
@[simp] theorem Yard.note_tasks (y : Yard) (env : Env) (object : Nat) (n : Note) :
    (y.note env object n).tasks = y.tasks := rfl
@[simp] theorem Yard.note_queues (y : Yard) (env : Env) (object : Nat) (n : Note) :
    (y.note env object n).queues = y.queues := rfl
@[simp] theorem Yard.note_issued (y : Yard) (env : Env) (object : Nat) (n : Note) :
    (y.note env object n).issued = y.issued := rfl
@[simp] theorem Yard.note_backlog (y : Yard) (env : Env) (object : Nat) (n : Note) :
    (y.note env object n).backlog = y.backlog := rfl
@[simp] theorem Yard.note_nextId (y : Yard) (env : Env) (object : Nat) (n : Note) :
    (y.note env object n).nextId = y.nextId := rfl
@[simp] theorem Yard.note_movers (y : Yard) (env : Env) (object : Nat) (n : Note) :
    (y.note env object n).movers = y.movers := rfl
@[simp] theorem Yard.note_dispatchHold (y : Yard) (env : Env) (object : Nat) (n : Note) :
    (y.note env object n).dispatchHold = y.dispatchHold := rfl
@[simp] theorem Yard.note_notes (y : Yard) (env : Env) (object : Nat) (n : Note) :
    (y.note env object n).notes = y.notes ++ [{ minute := env.minute, object := object, note := n, droppedBefore := 0 }] := rfl

/-! ### `Yard.enqueue` -/

@[simp] theorem Yard.enqueue_pallets (y : Yard) (level id : Nat) : (y.enqueue level id).pallets = y.pallets := rfl
@[simp] theorem Yard.enqueue_tips (y : Yard) (level id : Nat) : (y.enqueue level id).tips = y.tips := rfl
@[simp] theorem Yard.enqueue_decks (y : Yard) (level id : Nat) : (y.enqueue level id).decks = y.decks := rfl
@[simp] theorem Yard.enqueue_departures (y : Yard) (level id : Nat) :
    (y.enqueue level id).departures = y.departures := rfl
@[simp] theorem Yard.enqueue_waiting (y : Yard) (level id : Nat) : (y.enqueue level id).waiting = y.waiting := rfl
@[simp] theorem Yard.enqueue_doors (y : Yard) (level id : Nat) : (y.enqueue level id).doors = y.doors := rfl
@[simp] theorem Yard.enqueue_lanes (y : Yard) (level id : Nat) : (y.enqueue level id).lanes = y.lanes := rfl
@[simp] theorem Yard.enqueue_tasks (y : Yard) (level id : Nat) : (y.enqueue level id).tasks = y.tasks := rfl
@[simp] theorem Yard.enqueue_queues (y : Yard) (level id : Nat) :
    (y.enqueue level id).queues = y.queues.set [] level (y.queue level ++ [id]) := rfl
@[simp] theorem Yard.enqueue_issued (y : Yard) (level id : Nat) : (y.enqueue level id).issued = y.issued := rfl
@[simp] theorem Yard.enqueue_backlog (y : Yard) (level id : Nat) : (y.enqueue level id).backlog = y.backlog := rfl
@[simp] theorem Yard.enqueue_nextId (y : Yard) (level id : Nat) : (y.enqueue level id).nextId = y.nextId := rfl
@[simp] theorem Yard.enqueue_movers (y : Yard) (level id : Nat) : (y.enqueue level id).movers = y.movers := rfl
@[simp] theorem Yard.enqueue_dispatchHold (y : Yard) (level id : Nat) :
    (y.enqueue level id).dispatchHold = y.dispatchHold := rfl
@[simp] theorem Yard.enqueue_notes (y : Yard) (level id : Nat) : (y.enqueue level id).notes = y.notes := rfl

/-! ### `Yard.dequeue` -/

@[simp] theorem Yard.dequeue_pallets (y : Yard) (level id : Nat) : (y.dequeue level id).pallets = y.pallets := rfl
@[simp] theorem Yard.dequeue_tips (y : Yard) (level id : Nat) : (y.dequeue level id).tips = y.tips := rfl
@[simp] theorem Yard.dequeue_decks (y : Yard) (level id : Nat) : (y.dequeue level id).decks = y.decks := rfl
@[simp] theorem Yard.dequeue_departures (y : Yard) (level id : Nat) :
    (y.dequeue level id).departures = y.departures := rfl
@[simp] theorem Yard.dequeue_waiting (y : Yard) (level id : Nat) : (y.dequeue level id).waiting = y.waiting := rfl
@[simp] theorem Yard.dequeue_doors (y : Yard) (level id : Nat) : (y.dequeue level id).doors = y.doors := rfl
@[simp] theorem Yard.dequeue_lanes (y : Yard) (level id : Nat) : (y.dequeue level id).lanes = y.lanes := rfl
@[simp] theorem Yard.dequeue_tasks (y : Yard) (level id : Nat) : (y.dequeue level id).tasks = y.tasks := rfl
@[simp] theorem Yard.dequeue_queues (y : Yard) (level id : Nat) :
    (y.dequeue level id).queues = y.queues.set [] level ((y.queue level).filter (· ≠ id)) := rfl
@[simp] theorem Yard.dequeue_issued (y : Yard) (level id : Nat) : (y.dequeue level id).issued = y.issued := rfl
@[simp] theorem Yard.dequeue_backlog (y : Yard) (level id : Nat) : (y.dequeue level id).backlog = y.backlog := rfl
@[simp] theorem Yard.dequeue_nextId (y : Yard) (level id : Nat) : (y.dequeue level id).nextId = y.nextId := rfl
@[simp] theorem Yard.dequeue_movers (y : Yard) (level id : Nat) : (y.dequeue level id).movers = y.movers := rfl
@[simp] theorem Yard.dequeue_dispatchHold (y : Yard) (level id : Nat) :
    (y.dequeue level id).dispatchHold = y.dispatchHold := rfl
@[simp] theorem Yard.dequeue_notes (y : Yard) (level id : Nat) : (y.dequeue level id).notes = y.notes := rfl

/-! ### `Yard.dropBacklog` -/

@[simp] theorem Yard.dropBacklog_pallets (y : Yard) (ref : Nat) : (y.dropBacklog ref).pallets = y.pallets := rfl
@[simp] theorem Yard.dropBacklog_tips (y : Yard) (ref : Nat) : (y.dropBacklog ref).tips = y.tips := rfl
@[simp] theorem Yard.dropBacklog_decks (y : Yard) (ref : Nat) : (y.dropBacklog ref).decks = y.decks := rfl
@[simp] theorem Yard.dropBacklog_departures (y : Yard) (ref : Nat) :
    (y.dropBacklog ref).departures = y.departures := rfl
@[simp] theorem Yard.dropBacklog_waiting (y : Yard) (ref : Nat) : (y.dropBacklog ref).waiting = y.waiting := rfl
@[simp] theorem Yard.dropBacklog_doors (y : Yard) (ref : Nat) : (y.dropBacklog ref).doors = y.doors := rfl
@[simp] theorem Yard.dropBacklog_lanes (y : Yard) (ref : Nat) : (y.dropBacklog ref).lanes = y.lanes := rfl
@[simp] theorem Yard.dropBacklog_tasks (y : Yard) (ref : Nat) : (y.dropBacklog ref).tasks = y.tasks := rfl
@[simp] theorem Yard.dropBacklog_queues (y : Yard) (ref : Nat) : (y.dropBacklog ref).queues = y.queues := rfl
@[simp] theorem Yard.dropBacklog_issued (y : Yard) (ref : Nat) : (y.dropBacklog ref).issued = y.issued := rfl
@[simp] theorem Yard.dropBacklog_backlog (y : Yard) (ref : Nat) :
    (y.dropBacklog ref).backlog = y.backlog.filter fun b => b.pallet ≠ ref := rfl
@[simp] theorem Yard.dropBacklog_nextId (y : Yard) (ref : Nat) : (y.dropBacklog ref).nextId = y.nextId := rfl
@[simp] theorem Yard.dropBacklog_movers (y : Yard) (ref : Nat) : (y.dropBacklog ref).movers = y.movers := rfl
@[simp] theorem Yard.dropBacklog_dispatchHold (y : Yard) (ref : Nat) :
    (y.dropBacklog ref).dispatchHold = y.dispatchHold := rfl
@[simp] theorem Yard.dropBacklog_notes (y : Yard) (ref : Nat) : (y.dropBacklog ref).notes = y.notes := rfl

/-- What `Yard.laneExpect` does: it writes one lane record and nothing else. -/
theorem Yard.laneExpect_eq (y : Yard) (l : Nat) :
    y.laneExpect l = y.setLane l { y.lane l with incoming := (y.lane l).incoming + 1 } := rfl

/-- What `Yard.laneUnexpect` does: it writes one lane record and nothing else. -/
theorem Yard.laneUnexpect_eq (y : Yard) (l : Nat) :
    y.laneUnexpect l = y.setLane l { y.lane l with incoming := (y.lane l).incoming - 1 } := rfl

/-- What `Yard.laneArrive` does: it writes one lane record and nothing else. -/
theorem Yard.laneArrive_eq (y : Yard) (l ref : Nat) :
    y.laneArrive l ref = y.setLane l { y.lane l with incoming := (y.lane l).incoming - 1, present := (y.lane l).present ++ [ref] } := rfl

/-- What `Yard.laneLeave` does: it writes one lane record and nothing else. -/
theorem Yard.laneLeave_eq (y : Yard) (l ref : Nat) :
    y.laneLeave l ref = y.setLane l { y.lane l with present := (y.lane l).present.filter (· ≠ ref) } := rfl

/-! ### Reading a record back -/

@[simp] theorem Floor.tip_setTip (y : Yard) (door : Nat) (t : Tip) : (y.setTip door t).tip door = t := by
  simp [Floor.tip]
theorem Floor.tip_setTip_other (y : Yard) {i door : Nat} (t : Tip) (h : i ≠ door) :
    (y.setTip door t).tip i = y.tip i := by
  simp [Floor.tip, Tab.at_set_other, h]
@[simp] theorem Floor.door_setDoor (y : Yard) (n : Nat) (r : Door) : (y.setDoor n r).door n = r := by
  simp [Floor.door]
theorem Floor.door_setDoor_other (y : Yard) {i n : Nat} (r : Door) (h : i ≠ n) : (y.setDoor n r).door i = y.door i := by
  simp [Floor.door, Tab.at_set_other, h]
@[simp] theorem Floor.lane_setLane (y : Yard) (l : Nat) (r : Lane) : (y.setLane l r).lane l = r := by
  simp [Floor.lane]
theorem Floor.lane_setLane_other (y : Yard) {i l : Nat} (r : Lane) (h : i ≠ l) : (y.setLane l r).lane i = y.lane i := by
  simp [Floor.lane, Tab.at_set_other, h]
@[simp] theorem Floor.mover_setMover (y : Yard) (m : Nat) (r : Mover) : (y.setMover m r).mover m = r := by
  simp [Floor.mover]
theorem Floor.mover_setMover_other (y : Yard) {i m : Nat} (r : Mover) (h : i ≠ m) :
    (y.setMover m r).mover i = y.mover i := by
  simp [Floor.mover, Tab.at_set_other, h]
@[simp] theorem Floor.queue_setQueue (y : Yard) (level : Nat) (q : List Nat) : (y.setQueue level q).queue level = q := by
  simp [Floor.queue]
theorem Floor.queue_setQueue_other (y : Yard) {i level : Nat} (q : List Nat) (h : i ≠ level) :
    (y.setQueue level q).queue i = y.queue i := by
  simp [Floor.queue, Tab.at_set_other, h]
@[simp] theorem Floor.deck_setDeck (y : Yard) (d : Nat) (k : Deck) : (y.setDeck d k).deck d = k := by
  simp [Floor.deck]
theorem Floor.deck_setDeck_other (y : Yard) {i d : Nat} (k : Deck) (h : i ≠ d) : (y.setDeck d k).deck i = y.deck i := by
  simp [Floor.deck, Tab.at_put_other, h]
@[simp] theorem Floor.pallet_setPallet (y : Yard) (ref : Nat) (p : Pallet) : (y.setPallet ref p).pallet ref = p := by
  simp [Floor.pallet]
theorem Floor.pallet_setPallet_other (y : Yard) {i ref : Nat} (p : Pallet) (h : i ≠ ref) :
    (y.setPallet ref p).pallet i = y.pallet i := by
  simp [Floor.pallet, Tab.at_put_other, h]
theorem Floor.departure_modDep (y : Yard) {d : Nat} (g : Departure → Departure) {r : Departure}
    (h : y.departures.get d = some r) : (y.modDep d g).departure d = g r := by
  simp [Floor.departure, Tab.at, h]
theorem Floor.departure_modDep_other (y : Yard) {i d : Nat} (g : Departure → Departure) (h : i ≠ d) :
    (y.modDep d g).departure i = y.departure i := by
  simp [Floor.departure, Tab.at, Tab.get_modify_other, h]

/-! ### `Env.muting`, `Run.onYard`, `State.toRun` and `State.absorb` -/

@[simp] theorem Env.muting_plan (env : Env) (d : Nat) : (env.muting d).plan = env.plan := rfl
@[simp] theorem Env.muting_minute (env : Env) (d : Nat) : (env.muting d).minute = env.minute := rfl
@[simp] theorem Env.muting_isOpen (env : Env) (d : Nat) : (env.muting d).isOpen = env.isOpen := rfl
@[simp] theorem Env.muting_mute (env : Env) (d : Nat) : (env.muting d).mute = d :: env.mute := rfl
@[simp] theorem Run.onYard_clock (r : Run) (g : Env → Yard → Yard) : (r.onYard g).clock = r.clock := rfl
@[simp] theorem Run.onYard_plan (r : Run) (g : Env → Yard → Yard) : (r.onYard g).plan = r.plan := rfl
@[simp] theorem Run.onYard_work (r : Run) (g : Env → Yard → Yard) : (r.onYard g).work = r.work := rfl
@[simp] theorem Run.onYard_draws (r : Run) (g : Env → Yard → Yard) : (r.onYard g).draws = r.draws := rfl
@[simp] theorem Run.onYard_yard (r : Run) (g : Env → Yard → Yard) : (r.onYard g).yard = g r.env r.yard := rfl
@[simp] theorem Run.env_plan (r : Run) : r.env.plan = r.plan.active := rfl
@[simp] theorem Run.env_minute (r : Run) : r.env.minute = r.clock.minute := rfl
@[simp] theorem Run.env_isOpen (r : Run) : r.env.isOpen = r.clock.isOpen := rfl
@[simp] theorem Run.env_mute (r : Run) : r.env.mute = [] := rfl
@[simp] theorem State.toRun_clock (s : State) : s.toRun.clock = s.clock := rfl
@[simp] theorem State.toRun_plan (s : State) : s.toRun.plan = s.plan := rfl
@[simp] theorem State.toRun_work (s : State) : s.toRun.work = s.work := rfl
@[simp] theorem State.toRun_draws (s : State) : s.toRun.draws = s.draws := rfl
@[simp] theorem State.toRun_floor (s : State) : s.toRun.yard.toFloor = s.floor := rfl
@[simp] theorem State.toRun_notes (s : State) : s.toRun.yard.notes = [] := rfl
@[simp] theorem State.absorb_clock (s : State) (r : Run) : (s.absorb r).clock = r.clock := rfl
@[simp] theorem State.absorb_plan (s : State) (r : Run) : (s.absorb r).plan = r.plan := rfl
@[simp] theorem State.absorb_floor (s : State) (r : Run) : (s.absorb r).floor = r.yard.toFloor := rfl
@[simp] theorem State.absorb_work (s : State) (r : Run) : (s.absorb r).work = r.work := rfl
@[simp] theorem State.absorb_draws (s : State) (r : Run) : (s.absorb r).draws = r.draws := rfl
@[simp] theorem State.absorb_pending (s : State) (r : Run) : (s.absorb r).pending = s.pending := rfl
@[simp] theorem State.absorb_link (s : State) (r : Run) : (s.absorb r).link = s.link.joinAll r.yard.notes := rfl
@[simp] theorem State.absorb_toRun (s : State) : s.absorb s.toRun = s := rfl

end Sys2Proof.Machine
end

