-- ==== Sys2Proof/Laws/Link.lean ====
section
/-! SUPPORT. What the link's operations do (chapter 9): reports joining, a reply handed over, a frame taken or offered. -/

namespace Sys2Proof.Machine

/-! ### A report joins, R174, R175 -/

theorem Link.join_room {l : Link} (r : Report) (h : l.reports.length < Config.reportQueueSize) :
    l.join r = { l with reports := l.reports ++ [r] } := by simp [Link.join, h]

theorem Link.join_full {l : Link} (r : Report) (h : Config.reportQueueSize ≤ l.reports.length) :
    l.join r =
      { l with
        reports := if l.replaceMode then l.reports.drop 1 ++ [r] else l.reports
        droppedReports := satAdd Config.countMax l.droppedReports 1
        pendingDrops := satAdd Config.countMax l.pendingDrops 1 } := by
  simp [Link.join, Nat.not_lt.mpr h]

/-- A joining report touches queue and drop counts alone. -/
theorem Link.join_frame (l : Link) (r : Report) :
    (l.join r).rx = l.rx ∧ (l.join r).waitMark = l.waitMark ∧ (l.join r).heldInReset = l.heldInReset ∧
      (l.join r).buffer = l.buffer ∧ (l.join r).inHand = l.inHand ∧ (l.join r).slot = l.slot ∧ (l.join r).tx = l.tx ∧
      (l.join r).gateOpen = l.gateOpen ∧ (l.join r).replaceMode = l.replaceMode ∧
      (l.join r).framingErrors = l.framingErrors ∧ (l.join r).droppedRequests = l.droppedRequests := by
  unfold Link.join; split <;> simp

@[simp] theorem Link.joinAll_nil (l : Link) : l.joinAll [] = l := rfl
theorem Link.joinAll_cons (l : Link) (r : Report) (rs : List Report) : l.joinAll (r :: rs) = (l.join r).joinAll rs := rfl
theorem Link.joinAll_append (l : Link) (rs qs : List Report) : l.joinAll (rs ++ qs) = (l.joinAll rs).joinAll qs := by
  simp [Link.joinAll]

theorem Link.joinAll_frame (l : Link) (rs : List Report) :
    (l.joinAll rs).rx = l.rx ∧ (l.joinAll rs).waitMark = l.waitMark ∧ (l.joinAll rs).heldInReset = l.heldInReset ∧
      (l.joinAll rs).buffer = l.buffer ∧ (l.joinAll rs).inHand = l.inHand ∧ (l.joinAll rs).slot = l.slot ∧
      (l.joinAll rs).tx = l.tx ∧ (l.joinAll rs).gateOpen = l.gateOpen ∧ (l.joinAll rs).replaceMode = l.replaceMode ∧
      (l.joinAll rs).framingErrors = l.framingErrors ∧ (l.joinAll rs).droppedRequests = l.droppedRequests := by
  induction rs generalizing l with
  | nil => simp
  | cons r rs ih => rw [Link.joinAll_cons]; have h := Link.join_frame l r; have k := ih (l.join r); simp_all

@[simp] theorem satAdd_le (top n k : Nat) : satAdd top n k ≤ top := Nat.min_le_left _ _

/-- What `Link.within` says, part by part. -/
theorem Link.within_iff (l : Link) :
    l.within = true ↔
      l.rx.within = true ∧ l.buffer.length ≤ 4 ∧ (∀ f ∈ l.buffer, bodyFits f.body = true) ∧ l.reports.length ≤ 64 ∧
        l.framingErrors ≤ 65535 ∧ l.droppedRequests ≤ 65535 ∧ l.droppedReports ≤ 65535 ∧ l.pendingDrops ≤ 65535 := by
  simp only [Link.within, Bool.and_eq_true, decide_eq_true_eq, List.all_eq_true, and_assoc]; exact Iff.rfl

theorem Link.within_join (l : Link) (r : Report) (h : l.within = true) : (l.join r).within = true := by
  rw [Link.within_iff] at h ⊢
  obtain ⟨h1, h2, h3, h4, h5, h6, h7, h8⟩ := h
  by_cases hr : l.reports.length < Config.reportQueueSize
  · rw [Link.join_room r hr]
    refine ⟨h1, h2, h3, ?_, h5, h6, h7, h8⟩
    simp [Config.reportQueueSize] at hr ⊢; omega
  · rw [Link.join_full r (Nat.not_lt.mp hr)]
    refine ⟨h1, h2, h3, ?_, h5, h6, satAdd_le _ _ _, satAdd_le _ _ _⟩
    show (if l.replaceMode = true then l.reports.drop 1 ++ [r] else l.reports).length ≤ 64
    have hq : Config.reportQueueSize = 64 := rfl
    split
    · simp only [List.length_append, List.length_drop, List.length_singleton]; omega
    · exact h4

theorem Link.within_joinAll (l : Link) (rs : List Report) (h : l.within = true) : (l.joinAll rs).within = true := by
  induction rs generalizing l with
  | nil => exact h
  | cons r rs ih => exact ih _ (Link.within_join l r h)

/-! ### A reply is handed over, R171, R173 -/

theorem Link.deliver_frame (l : Link) (reply : Frame) :
    (l.deliver reply).rx = l.rx ∧ (l.deliver reply).waitMark = l.waitMark ∧
      (l.deliver reply).heldInReset = l.heldInReset ∧ (l.deliver reply).buffer = l.buffer ∧
      (l.deliver reply).tx = l.tx ∧ (l.deliver reply).reports = l.reports ∧ (l.deliver reply).gateOpen = l.gateOpen ∧
      (l.deliver reply).replaceMode = l.replaceMode ∧ (l.deliver reply).framingErrors = l.framingErrors ∧
      (l.deliver reply).droppedRequests = l.droppedRequests ∧ (l.deliver reply).droppedReports = l.droppedReports ∧
      (l.deliver reply).pendingDrops = l.pendingDrops := by
  unfold Link.deliver; split <;> simp

theorem Link.deliver_free {l : Link} (reply : Frame) (h : l.slot = none) :
    l.deliver reply = { l with slot := some reply } := by simp [Link.deliver, h]

theorem Link.within_deliver (l : Link) (reply : Frame) (h : l.within = true) : (l.deliver reply).within = true := by
  unfold Link.deliver; split <;> exact h

/-! ### A frame is taken, R170, R171 -/

/-- What `Link.accept` says: nothing is in the way, and the frame heads the buffer or arrives at an empty one. -/
theorem Link.accept_cases {l m : Link} {f : Frame} (h : l.accept f = some m) :
    l.inHand = none ∧ l.heldInReset = false ∧
      ((l.buffer = f :: m.buffer ∧ m = { l with buffer := m.buffer }) ∨
        (l.buffer = [] ∧ l.rx = .hunt ∧ l.waitMark = false ∧ bodyFits f.body = true ∧ m = l)) := by
  unfold Link.accept at h
  split at h
  · cases h
  · rename_i hb
    simp [Link.busy] at hb
    refine ⟨hb.1, hb.2, ?_⟩
    split at h
    · rename_i g rest hbuf
      split at h
      · rename_i hg; cases h; exact .inl ⟨by simp [hbuf, hg], rfl⟩
      · cases h
    · rename_i hbuf
      split at h
      · rename_i hl
        cases h
        simp [Link.listening] at hl
        exact .inr ⟨hbuf, hl.1.1, hl.1.2, hl.2, rfl⟩
      · cases h

theorem Link.within_accept {l m : Link} {f : Frame} (h : l.accept f = some m) (hl : l.within = true) :
    m.within = true := by
  obtain ⟨-, -, ⟨hb, hm⟩ | ⟨-, -, -, -, rfl⟩⟩ := Link.accept_cases h
  · rw [hm]
    rw [Link.within_iff] at hl ⊢
    obtain ⟨h1, h2, h3, h4⟩ := hl
    rw [hb] at h2 h3
    exact ⟨h1, by simp at h2 ⊢; omega, fun g hg => h3 g (List.mem_cons_of_mem _ hg), h4⟩
  · exact hl

/-! ### A frame is offered, R170; a framing error, R169 -/

theorem Link.offer_room {l : Link} (f : Frame) (h : l.buffer.length < 4) :
    l.offer f = { l with buffer := l.buffer ++ [f] } := by simp [Link.offer, Config.bufferSize, h]

theorem Link.offer_full {l : Link} (f : Frame) (h : 4 ≤ l.buffer.length) :
    l.offer f = { l with droppedRequests := satAdd Config.countMax l.droppedRequests 1 } := by
  simp [Link.offer, Config.bufferSize, Nat.not_lt.mpr h]

theorem Link.within_countFraming (l : Link) (h : l.within = true) : l.countFraming.within = true := by
  rw [Link.within_iff] at h ⊢
  obtain ⟨h1, h2, h3, h4, -, h6, h7, h8⟩ := h
  exact ⟨h1, h2, h3, h4, satAdd_le _ _ _, h6, h7, h8⟩

theorem Link.within_hunt (l : Link) (h : l.within = true) : ({ l with rx := .hunt } : Link).within = true := by
  rw [Link.within_iff] at h ⊢
  exact ⟨rfl, h.2⟩

theorem Link.within_dropPartial (l : Link) (h : l.within = true) : l.dropPartial.within = true :=
  Link.within_countFraming _ (Link.within_hunt l h)

end Sys2Proof.Machine
end

