-- ==== Sys2Proof/Laws/Requests.lean ====
section
/-! SUPPORT. What request handling does (R171, R172): one lemma for each way a request ends, which a proof about a request
cites with the answer of the request's own rule. -/

namespace Sys2Proof.Machine

/-! ### Outstanding work is completed -/

/-- Completing items leaves none, whatever was outstanding. -/
theorem Run.settleItems_work (r : Run) (n : Nat) : (r.settleItems n).work = .clear := by
  induction n generalizing r with
  | zero => rfl
  | succ n ih => unfold Run.settleItems; split <;> simp [ih]

@[simp] theorem Run.settle_work (r : Run) : r.settle.work = .clear := Run.settleItems_work _ _

@[simp] theorem State.settled_work (s : State) : s.settled.work = .clear := by
  unfold State.settled; split
  · assumption
  · exact Run.settle_work _

@[simp] theorem State.settled_pending (s : State) : s.settled.pending = s.pending := by
  unfold State.settled; split <;> rfl

theorem State.settled_of_clear {s : State} (h : s.work = .clear) : s.settled = s := by simp [State.settled, h]

/-- A frame is taken: the link accepts it, and work of the last tick is done. -/
theorem State.taken_cases {s u : State} {f : Frame} (h : s.taken f = some u) :
    ∃ l, s.link.accept f = some l ∧ u = { s with link := l }.settled := by
  unfold State.taken at h
  cases hl : s.link.accept f with
  | none => simp [hl] at h
  | some l => simp [hl] at h; exact ⟨l, rfl, h.symm⟩

theorem State.taken_work {s u : State} {f : Frame} (h : s.taken f = some u) : u.work = .clear := by
  obtain ⟨l, -, rfl⟩ := State.taken_cases h; exact State.settled_work _

theorem State.taken_pending {s u : State} {f : Frame} (h : s.taken f = some u) : u.pending = s.pending := by
  obtain ⟨l, -, rfl⟩ := State.taken_cases h; simp

/-- With no work outstanding, taking a frame changes the link alone. -/
theorem State.taken_of_clear {s : State} {f : Frame} {l : Link} (hw : s.work = .clear) (h : s.link.accept f = some l) :
    s.taken f = some { s with link := l } := by
  simp [State.taken, h, State.settled_of_clear (s := { s with link := l }) hw]

/-! ### The ways a request ends -/

theorem takeRequest_none {kind tag : Byte} {body : List Byte} {answer : State → Answer State} {s : State}
    (h : s.taken { kind := kind, tag := tag, body := body } = none) : takeRequest kind tag body answer s = s := by
  simp [takeRequest, h]

theorem takeRequest_refused {kind tag : Byte} {body : List Byte} {answer : State → Answer State} {s u : State}
    {c : RefusalCode} (h : s.taken { kind := kind, tag := tag, body := body } = some u) (ha : answer u = .refused c) :
    takeRequest kind tag body answer s = u.replyRefused kind tag c := by
  simp [takeRequest, h, State.handle, ha, State.replyRefused, State.replying]

theorem takeRequest_done {kind tag : Byte} {body : List Byte} {answer : State → Answer State} {s u t : State}
    {result : List Byte} (h : s.taken { kind := kind, tag := tag, body := body } = some u)
    (ha : answer u = .done result t) : takeRequest kind tag body answer s = t.replyDone kind tag result := by
  simp [takeRequest, h, State.handle, ha, State.replyDone, State.replying]

theorem asRun_refused {g : Run → Answer Run} {u : State} {c : RefusalCode} (h : g u.toRun = .refused c) :
    asRun g u = .refused c := by simp [asRun, h]

theorem asRun_done {g : Run → Answer Run} {u : State} {result : List Byte} {r : Run} (h : g u.toRun = .done result r) :
    asRun g u = .done result (u.absorb r) := by simp [asRun, h]

theorem asYard_refused {g : Env → Yard → Answer Yard} {u : State} {c : RefusalCode}
    (h : g u.toRun.env u.toRun.yard = .refused c) : asYard g u = .refused c := by
  simp [asYard, asRun, h]

theorem asYard_done {g : Env → Yard → Answer Yard} {u : State} {result : List Byte} {y : Yard}
    (h : g u.toRun.env u.toRun.yard = .done result y) : asYard g u = .done result (u.withFloor y.toFloor y.notes) := by
  simp [asYard, asRun, h]; rfl

/-- A request of the floor's blocks that its rule takes. -/
theorem takeRequest_asYard {kind tag : Byte} {body : List Byte} {g : Env → Yard → Answer Yard} {s u : State}
    {result : List Byte} {y : Yard} (h : s.taken { kind := kind, tag := tag, body := body } = some u)
    (hy : g u.toRun.env u.toRun.yard = .done result y) :
    takeRequest kind tag body (asYard g) s = (u.withFloor y.toFloor y.notes).replyDone kind tag result :=
  takeRequest_done h (asYard_done hy)

/-- A request of the floor's blocks that its rule refuses. -/
theorem takeRequest_asYard_refused {kind tag : Byte} {body : List Byte} {g : Env → Yard → Answer Yard} {s u : State}
    {c : RefusalCode} (h : s.taken { kind := kind, tag := tag, body := body } = some u)
    (hy : g u.toRun.env u.toRun.yard = .refused c) :
    takeRequest kind tag body (asYard g) s = u.replyRefused kind tag c :=
  takeRequest_refused h (asYard_refused hy)

/-- A request of clock or plan that its rule takes. -/
theorem takeRequest_asRun {kind tag : Byte} {body : List Byte} {g : Run → Answer Run} {s u : State}
    {result : List Byte} {r : Run} (h : s.taken { kind := kind, tag := tag, body := body } = some u)
    (hr : g u.toRun = .done result r) :
    takeRequest kind tag body (asRun g) s = (u.absorb r).replyDone kind tag result :=
  takeRequest_done h (asRun_done hr)

theorem takeRequest_asRun_refused {kind tag : Byte} {body : List Byte} {g : Run → Answer Run} {s u : State}
    {c : RefusalCode} (h : s.taken { kind := kind, tag := tag, body := body } = some u) (hr : g u.toRun = .refused c) :
    takeRequest kind tag body (asRun g) s = u.replyRefused kind tag c :=
  takeRequest_refused h (asRun_refused hr)

@[simp] theorem State.withFloor_same (u : State) : u.withFloor u.floor [] = u := rfl

/-- What a step of the floor's blocks leaves as it was. -/
theorem State.withFloor_frame (u : State) (f : Floor) (notes : List Report) :
    (u.withFloor f notes).clock = u.clock ∧ (u.withFloor f notes).plan = u.plan ∧
      (u.withFloor f notes).work = u.work ∧ (u.withFloor f notes).draws = u.draws ∧
      (u.withFloor f notes).pending = u.pending ∧ (u.withFloor f notes).floor = f :=
  ⟨rfl, rfl, rfl, rfl, rfl, rfl⟩

/-! ### Bodies -/

theorem numbered_in {σ : Type} {c : Byte} {lo hi : Nat} {k : Nat → Answer σ} (h1 : lo ≤ c.toNat) (h2 : c.toNat ≤ hi) :
    numbered [c] lo hi k = k c.toNat := by
  simp [numbered, u8, Nat.not_lt.mpr h1, Nat.not_lt.mpr h2]

theorem numbered_range {σ : Type} {c : Byte} {lo hi : Nat} {k : Nat → Answer σ} (h : c.toNat < lo ∨ hi < c.toNat) :
    numbered [c] lo hi k = .refused .range := by
  simp [numbered, u8, h]

theorem numbered_format {σ : Type} {body : List Byte} {lo hi : Nat} {k : Nat → Answer σ} (h : body.length ≠ 1) :
    numbered body lo hi k = .refused .format := by
  simp [numbered, h]

end Sys2Proof.Machine
end

