-- ==== Sys2Proof/Laws/Clock.lean ====
section
/-! SUPPORT. What clock, plan store and outstanding work leave alone (chapters 7 and 8): one frame lemma for each shared
operation on a `Run`. -/

namespace Sys2Proof.Machine

/-! ### A free choice -/

@[simp] theorem Run.draw_clock (r : Run) (n : Nat) : (r.draw n).2.clock = r.clock := by unfold Run.draw; split <;> rfl
@[simp] theorem Run.draw_plan (r : Run) (n : Nat) : (r.draw n).2.plan = r.plan := by unfold Run.draw; split <;> rfl
@[simp] theorem Run.draw_yard (r : Run) (n : Nat) : (r.draw n).2.yard = r.yard := by unfold Run.draw; split <;> rfl
@[simp] theorem Run.draw_work (r : Run) (n : Nat) : (r.draw n).2.work = r.work := by unfold Run.draw; split <;> rfl

/-! ### The update point -/

/-- One entry touches neither clock, work and draws nor the shadow and the method, R141. -/
theorem Run.takeEntry_frame (r : Run) (cause : UpdateCause) (e : PlanEntry) :
    (r.takeEntry cause e).clock = r.clock ∧ (r.takeEntry cause e).work = r.work ∧
      (r.takeEntry cause e).draws = r.draws ∧ (r.takeEntry cause e).plan.shadow = r.plan.shadow ∧
      (r.takeEntry cause e).plan.method = r.plan.method := by
  unfold Run.takeEntry; simp only; split <;> exact ⟨rfl, rfl, rfl, rfl, rfl⟩

theorem takeEntries_frame (cause : UpdateCause) (es : List PlanEntry) (r : Run) :
    (takeEntries cause es r).2.clock = r.clock ∧ (takeEntries cause es r).2.work = r.work ∧
      (takeEntries cause es r).2.draws = r.draws ∧ (takeEntries cause es r).2.plan.shadow = r.plan.shadow ∧
      (takeEntries cause es r).2.plan.method = r.plan.method := by
  induction es generalizing r with
  | nil => exact ⟨rfl, rfl, rfl, rfl, rfl⟩
  | cons e es ih =>
    obtain ⟨h1, h2, h3, h4, h5⟩ := ih (r.takeEntry cause e)
    obtain ⟨k1, k2, k3, k4, k5⟩ := r.takeEntry_frame cause e
    exact ⟨h1.trans k1, h2.trans k2, h3.trans k3, h4.trans k4, h5.trans k5⟩

/-- An update point leaves clock, work and draws alone, R138. -/
theorem Run.updatePoint_frame (r : Run) (cause : UpdateCause) :
    (r.updatePoint cause).2.clock = r.clock ∧ (r.updatePoint cause).2.work = r.work ∧
      (r.updatePoint cause).2.draws = r.draws := by
  have h := takeEntries_frame cause r.plan.shadow.entries { r with plan := { r.plan with shadow := .empty } }
  unfold Run.updatePoint
  simp only
  split
  · exact ⟨h.1, h.2.1, h.2.2.1⟩
  · exact ⟨h.1, h.2.1, h.2.2.1⟩

/-! ### Wave boundaries and the works of a minute -/

/-- A boundary's update point and door release leave the clock alone. -/
@[simp] theorem Run.boundaryUpdate_clock (r : Run) : r.boundaryUpdate.clock = r.clock := by
  unfold Run.boundaryUpdate; split
  · exact (r.updatePoint_frame .boundary).1
  · rfl

@[simp] theorem Run.boundaryRelease_clock (r : Run) : r.boundaryRelease.clock = r.clock := rfl

/-- A boundary raises the wave number by one and sets the last boundary minute, R155. -/
theorem Run.takeBoundary_clock (r : Run) (m : Nat) :
    (r.takeBoundary m).clock = { r.clock with wave := r.clock.wave + 1, lastBoundary := m } := by
  unfold Run.takeBoundary
  simp only
  split
  · split <;> simp
  · simp

/-- The boundary minute lies after the last one and not after the night minute, R155. -/
theorem Run.boundaryDue_some {r : Run} {since m : Nat} (h : r.boundaryDue since = some m) :
    since < m ∧ r.clock.lastBoundary < m ∧ m ≤ r.clock.minute := by
  unfold Run.boundaryDue at h
  simp only at h
  split at h
  · rename_i hc; cases h; exact ⟨hc.1, hc.2, Nat.div_mul_le_self _ _⟩
  · cases h

/-- The boundary test takes a boundary or leaves the clock alone, R155. -/
theorem Run.testBoundary_clock (r : Run) (since : Nat) :
    (r.testBoundary since).clock = r.clock ∨
      ∃ m, r.boundaryDue since = some m ∧
        (r.testBoundary since).clock = { r.clock with wave := r.clock.wave + 1, lastBoundary := m } := by
  unfold Run.testBoundary
  split
  · rename_i m hm; exact .inr ⟨m, hm, r.takeBoundary_clock m⟩
  · exact .inl rfl

@[simp] theorem Run.endChangeovers_clock (r : Run) (n : Nat) : (r.endChangeovers n).clock = r.clock := by
  induction n generalizing r with
  | zero => rfl
  | succ n ih => unfold Run.endChangeovers; split <;> simp [ih]

@[simp] theorem Run.reachEnd_clock (r : Run) : r.reachEnd.clock = { r.clock with endReached := true, second := 0 } := rfl

/-- No block's work moves the minute or opens or closes the night, R154. -/
theorem Run.doItem_minute (r : Run) (i : WorkItem) :
    (r.doItem i).clock.minute = r.clock.minute ∧ (r.doItem i).clock.isOpen = r.clock.isOpen := by
  cases i with
  | departures => exact ⟨rfl, rfl⟩
  | expiry ids => exact ⟨rfl, rfl⟩
  | doors => simp [Run.doItem]
  | wave since =>
    rcases r.testBoundary_clock since with h | ⟨m, -, h⟩ <;> simp [Run.doItem, h]
  | syncUpdate => simp [Run.doItem, (r.updatePoint_frame .sync).1]
  | endOfClock => simp [Run.doItem]

/-- Completing what is outstanding moves neither minute nor night state. -/
theorem Run.settleItems_minute (r : Run) (n : Nat) :
    (r.settleItems n).clock.minute = r.clock.minute ∧ (r.settleItems n).clock.isOpen = r.clock.isOpen := by
  induction n generalizing r with
  | zero => exact ⟨rfl, rfl⟩
  | succ n ih =>
    unfold Run.settleItems
    split
    · exact ⟨rfl, rfl⟩
    · simp only
      rw [(ih _).1, (ih _).2]
      simp [Run.doItem_minute]

theorem Run.settle_minute (r : Run) :
    r.settle.clock.minute = r.clock.minute ∧ r.settle.clock.isOpen = r.clock.isOpen := by
  unfold Run.settle
  simp only
  rw [(Run.settleItems_minute _ _).1, (Run.settleItems_minute _ _).2]
  split
  · exact r.doItem_minute _
  · exact ⟨rfl, rfl⟩

end Sys2Proof.Machine
end

