-- ==== Sys2Proof/Laws/Floor.lean ====
section
/-! SUPPORT. What the floor's shared operations do: the watch (R86, R87), the pool and its queues (R93, R95), the release
evaluation where it does nothing, due events (R29), and eligibility. -/

namespace Sys2Proof.Machine

/-! ### The watch -/

/-- An occupancy that ends where it began crosses no limit, R86. -/
theorem Lane.crossed_same (r : Lane) (b : Nat) : r.crossed b b = none := by
  have up : ∀ h : Nat, ¬(b < h ∧ h ≤ b) := fun h hh => by omega
  have down : ∀ lo : Nat, ¬(lo < b ∧ b ≤ lo) := fun lo hh => by omega
  cases hh : r.high <;> cases hl : r.low <;> simp only [Lane.crossed, hh, hl, up, down, if_false]

theorem Yard.watchLane_same {y : Yard} {env : Env} {before : Floor} {l : Nat} (h : before.occupancy l = y.occupancy l) :
    y.watchLane env before l = y := by
  simp [Yard.watchLane, h, Lane.crossed_same]

/-- The watch does nothing where no occupancy has changed, R86. -/
theorem Yard.watch_same {y : Yard} {env : Env} {before : Floor}
    (h : ∀ l ∈ y.lanes.keys, before.occupancy l = y.occupancy l) : y.watch env before = y := by
  have key : ∀ ks : List Nat, (∀ l ∈ ks, before.occupancy l = y.occupancy l) →
      ks.foldl (fun z l => z.watchLane env before l) y = y := by
    intro ks
    induction ks with
    | nil => intro; rfl
    | cons l ks ih =>
      intro hk
      rw [List.foldl_cons, Yard.watchLane_same (hk l List.mem_cons_self)]
      exact ih fun m hm => hk m (List.mem_cons_of_mem _ hm)
  exact key _ h

/-- In particular where the lane table is the same. -/
theorem Yard.watch_lanes {y : Yard} {env : Env} {before : Floor} (h : y.lanes = before.lanes) : y.watch env before = y :=
  Yard.watch_same fun l _ => by simp [Floor.occupancy, Floor.lane, h]

/-- `z` differs from `y` in lane records and reports alone. -/
def Yard.lanesOnly (y z : Yard) : Prop := z = { y with lanes := z.lanes, notes := z.notes }

theorem Yard.lanesOnly_refl (y : Yard) : y.lanesOnly y := rfl

theorem Yard.lanesOnly_trans {x y z : Yard} (h1 : x.lanesOnly y) (h2 : y.lanesOnly z) : x.lanesOnly z := by
  unfold Yard.lanesOnly at *; rw [h2, h1]

theorem Yard.lanesOnly_setLane (y : Yard) (l : Nat) (r : Lane) : y.lanesOnly (y.setLane l r) := rfl

/-- A crossing writes the lane's alert, and a report at most, R87. -/
theorem Yard.crossing_lanesOnly (y : Yard) (env : Env) (l : Nat) (kind : AlertKind) (limit : Nat) :
    y.lanesOnly (y.crossing env l kind limit) := by
  simp only [Yard.crossing]; split <;> rfl

theorem Yard.watchLane_lanesOnly (y : Yard) (env : Env) (before : Floor) (l : Nat) :
    y.lanesOnly (y.watchLane env before l) := by
  unfold Yard.watchLane
  split
  · exact Yard.crossing_lanesOnly ..
  · exact Yard.lanesOnly_refl y

/-- The watch changes nothing but lane records and reports, R86. -/
theorem Yard.watch_lanesOnly (y : Yard) (env : Env) (before : Floor) : y.lanesOnly (y.watch env before) := by
  have key : ∀ (ks : List Nat) (z : Yard), z.lanesOnly (ks.foldl (fun z l => z.watchLane env before l) z) := by
    intro ks
    induction ks with
    | nil => exact fun z => Yard.lanesOnly_refl z
    | cons l ks ih => exact fun z => Yard.lanesOnly_trans (Yard.watchLane_lanesOnly z env before l) (ih _)
  exact key _ _

/-! ### Release, the LOADED test and the end of STOPPING where they do nothing -/

theorem Yard.release_of_state {y : Yard} {env : Env} {d : Nat} (h : (y.departure d).state ≠ .loading) :
    y.release env d = y := by
  unfold Yard.release; split <;> simp [h]

theorem Yard.release_of_hold {y : Yard} {env : Env} {d : Nat} (h : (y.departure d).hold = true) :
    y.release env d = y := by
  unfold Yard.release; split <;> simp [h]

theorem Yard.loadedTest_of_state {y : Yard} {env : Env} {d : Nat} (h : (y.departure d).state ≠ .loading) :
    y.loadedTest env d = y := by simp [Yard.loadedTest, h]

theorem Yard.stopTest_of_state {y : Yard} {env : Env} {d : Nat} (h : (y.departure d).state ≠ .stopping) :
    y.stopTest env d = y := by simp [Yard.stopTest, h]

/-- The end of STOPPING, R45: with no task of the departure ISSUED it is STOPPED, with its note. -/
theorem Yard.stopTest_of_last {y : Yard} {env : Env} {d : Nat} (h : (y.departure d).state = .stopping)
    (h0 : y.issuedLoads d = 0) :
    y.stopTest env d = (y.modDep d fun r => { r with state := .stopped }).depNote env d .stopped := by
  simp [Yard.stopTest, h, h0]

/-- Departure control acts on a notice only for a departure that loads or stops, R35, R38, R45. -/
theorem Yard.evaluate_of_state {y : Yard} {env : Env} {d : Nat} (h1 : (y.departure d).state ≠ .loading)
    (h2 : (y.departure d).state ≠ .stopping) : y.evaluate env d = y := by
  unfold Yard.evaluate
  split
  · rfl
  · rw [Yard.release_of_state h1, Yard.loadedTest_of_state h1, Yard.stopTest_of_state h2]

/-- A muted departure is not evaluated, R24. -/
theorem Yard.evaluate_of_mute {y : Yard} {env : Env} {d : Nat} (h : env.mute.contains d = true) :
    y.evaluate env d = y := by
  unfold Yard.evaluate; rw [if_pos h]

theorem Deck.slots_blank (n : Nat) : (Deck.blank n).slots = [] := by
  have : ∀ (m pos : Nat), placeSlots pos (List.replicate m ([] : List Entry)) = [] := by
    intro m
    induction m with
    | zero => intro; rfl
    | succ m ih => intro pos; simp [List.replicate_succ, placeSlots, tierSlots, ih]
  exact this n 1

/-- A LOADING departure with an empty deck map releases nothing and is not LOADED, R35, R38. -/
theorem Yard.evaluate_of_emptyDeck {y : Yard} {env : Env} {d n : Nat} (h1 : (y.departure d).state = .loading)
    (h2 : y.deck d = Deck.blank n) : y.evaluate env d = y := by
  have hr : y.release env d = y := by
    unfold Yard.release
    split
    · rfl
    · split
      · rw [h2, Deck.slots_blank]; rfl
      · rfl
  have hl : y.loadedTest env d = y := by
    simp [Yard.loadedTest, h1, h2, Deck.allLoaded, Deck.isEmpty, Deck.blank]
  unfold Yard.evaluate
  rw [hr, hl, Yard.stopTest_of_state (by simp [h1])]
  simp

/-! ### Pool and queues -/

/-- What creating a task does, R93: the task under the id given, at the tail of its level queue; the next id moves on. -/
theorem Yard.addTask_eq (y : Yard) (t : Task) :
    y.addTask t =
      { y with
        tasks := y.tasks.put y.allocId t
        nextId := idAfter y.allocId
        queues := y.queues.set [] t.level (y.queue t.level ++ [y.allocId]) } := rfl

/-- R93: a created task, or none when the pool is full. -/
theorem Yard.createTask_cases {y z : Yard} {t : Task} {id : Nat} (h : y.createTask t = some (id, z)) :
    y.poolFull = false ∧ id = y.allocId ∧ z = y.addTask t := by
  unfold Yard.createTask at h
  split at h
  · cases h
  · rename_i hf; cases h; exact ⟨by simpa using hf, rfl, rfl⟩

/-- R94: an asked-for task stands in the pool, or its move in the backlog when the pool is full. -/
theorem Yard.askTask_cases (y : Yard) (kind : TaskKind) (level : Nat) (src dst : Loc) (ref : Nat) :
    (y.poolFull = false ∧
      y.askTask kind level src dst ref = (y.allocId, y.addTask (newTask kind level src dst [ref] 1 none))) ∨
    (y.poolFull = true ∧
      y.askTask kind level src dst ref =
        (0, { y with
              backlog := y.backlog ++ [{ kind := kind, level := level, src := src, dst := dst, pallet := ref }] })) := by
  unfold Yard.askTask Yard.createTask
  cases h : y.poolFull <;> simp

/-- A task that is not in the pool leaves nothing. -/
theorem Yard.leavePool_absent {y : Yard} {env : Env} {id : Nat} (h : y.tasks.has id = false) : y.leavePool env id = y := by
  simp [Yard.leavePool, h]

theorem Yard.admitBacklog_empty {y : Yard} (h : y.backlog = []) : y.admitBacklog = y := by
  unfold Yard.admitBacklog; rw [h]

/-- With no departure stalled, nothing is woken, R36. -/
theorem Yard.wakeStalled_none {y : Yard} {env : Env} (h : y.stalledDeps = []) : y.wakeStalled env = y := by
  simp [Yard.wakeStalled, h]

/-- R93 with an empty backlog and no stalled departure: the task leaves pool, queue and issue order. -/
theorem Yard.leavePool_quiet {y : Yard} {env : Env} {id : Nat} (h1 : y.tasks.has id = true) (h2 : y.backlog = [])
    (h3 : (y.takeTaskOut id).stalledDeps = []) : y.leavePool env id = y.takeTaskOut id := by
  have hb : (y.takeTaskOut id).backlog = [] := by unfold Yard.takeTaskOut; split <;> simp [h2]
  unfold Yard.leavePool
  rw [if_pos h1, Yard.admitBacklog_empty hb, Yard.wakeStalled_none h3]

/-! ### Due events, R29 -/

theorem Yard.takeDue_none {y : Yard} {env : Env} {d n : Nat} (h : y.nextDue env d = none) : y.takeDue env d n = y := by
  cases n <;> simp [Yard.takeDue, h]

/-- An examination that finds no due event changes nothing. -/
theorem Yard.examine_none {y : Yard} {env : Env} (h : ∀ d ∈ env.plan.departures.keys, y.nextDue env d = none) :
    y.examine env = y := by
  have key : ∀ ks : List Nat, (∀ d ∈ ks, y.nextDue env d = none) → ks.foldl (fun z d => z.takeDue env d 3) y = y := by
    intro ks
    induction ks with
    | nil => intro; rfl
    | cons d ks ih =>
      intro hk
      rw [List.foldl_cons, Yard.takeDue_none (hk d List.mem_cons_self)]
      exact ih fun e he => hk e (List.mem_cons_of_mem _ he)
  exact key _ h

end Sys2Proof.Machine
end

