-- ==== Sys2Proof/Laws/Deck.lean ====
section
/-! SUPPORT. What the deck planner's operations do (chapter 1): the search's two passes, a placement, the removal of one
entry, and a lift onto the trailer. Each says what it leaves of the floor. -/

namespace Sys2Proof.Machine

/-! ### The checks and the search -/

/-- The empty-position form, R12. -/
@[simp] theorem stackCheck_nil (pr : Profile) (n : Load) : stackCheck pr [] n = decide (n.height ≤ pr.clearHeight) := rfl

/-- Class order visits the same positions, R17. -/
theorem mem_classOrder {c : ServiceClass} {ps : List Nat} {pos : Nat} : pos ∈ classOrder c ps ↔ pos ∈ ps := by
  unfold classOrder; split <;> simp

/-- The candidate positions, R16. -/
theorem mem_candidates {e : DepartureEntry} {rows : Nat} {st : DepState} {dk : Deck} {lo hi pos : Nat}
    (h : pos ∈ candidates e rows st dk lo hi) :
    lo ≤ pos ∧ pos ≤ hi ∧ dk.closedLine < rowOf pos ∧ (st.beforeDoor = true → e.inReserve rows pos = false) := by
  simp only [candidates, List.mem_filter, List.mem_range'_1, Bool.and_eq_true, decide_eq_true_eq, Bool.not_eq_true',
    Bool.and_eq_false_iff] at h
  obtain ⟨⟨h1, h2⟩, h3, h4⟩ := h
  refine ⟨h1, by omega, h3, fun hb => ?_⟩
  rcases h4 with h4 | h4
  · simp [hb] at h4
  · exact h4

/-- Whichever pass answers, the position is one of those visited and both checks pass there, R17. -/
theorem twoPass_some {f : Floor} {pr : Profile} {dk : Deck} {p : Pallet} {order : List Nat} {pos : Nat}
    (h : twoPass f pr dk p order = some pos) : pos ∈ order ∧ f.fits pr dk p pos = true := by
  unfold twoPass at h
  split at h
  · rename_i q hq
    cases h
    have h1 := List.find?_some hq
    exact ⟨List.mem_of_find?_eq_some hq, by simp_all⟩
  · have h1 := List.find?_some h
    exact ⟨List.mem_of_find?_eq_some h, by simp_all⟩

/-! ### Placement, R18 -/

/-- What a placement does where the departure has its profile. -/
theorem Yard.place_eq {y : Yard} {env : Env} {d ref pos : Nat} {pr : Profile} (h : env.profileOf d = some pr) :
    y.place env d ref pos =
      { y with
        decks := y.decks.put d ((y.deck d).push pr pos { ref := ref, status := .planned } (y.pallet ref).weight)
        pallets := y.pallets.modify ref fun p =>
          { p with dep := some d, slot := some (pos, ((y.deck d).stackAt pos).length + 1) }
        departures := y.departures.modify d fun r =>
          { r with state := if r.state = .loaded then .loading else r.state } } := by
  unfold Yard.place; rw [h]; rfl

/-- A search that places has found its position, R18. -/
theorem Yard.tryPlace_some {y z : Yard} {env : Env} {d ref : Nat} (h : y.tryPlace env d ref = some z) :
    ∃ pos, y.findPlace env d ref = some pos ∧ z = y.place env d ref pos := by
  unfold Yard.tryPlace at h
  cases hp : y.findPlace env d ref with
  | none => simp [hp] at h
  | some pos => simp [hp] at h; exact ⟨pos, rfl, h.symm⟩

/-! ### One entry leaves or is loaded -/

/-- What R19 does to one entry. -/
theorem Yard.pullEntry_eq {y : Yard} {env : Env} {d ref pos : Nat} {pr : Profile} (h : env.profileOf d = some pr) :
    y.pullEntry env d ref pos =
      { y with
        decks := y.decks.put d ((y.deck d).pull pr pos ref (y.pallet ref).weight)
        pallets := y.pallets.modify ref fun p => { p with dep := none, slot := none } } := by
  unfold Yard.pullEntry; rw [h]; rfl

/-- A RELEASED entry becomes LOADED and its pallet ON TRAILER, R8. -/
theorem Yard.loadEntry_released {y : Yard} {d ref : Nat} {s : Slot} (h : (y.deck d).slotOf ref = some s)
    (hs : s.entry.status = .released) :
    y.loadEntry d ref =
      { y with
        decks := y.decks.put d ((y.deck d).shift ref .released .loaded)
        pallets := y.pallets.modify ref fun p =>
          { p with state := .onTrailer, loc := some (.trailer d s.pos s.tier) } } := by
  unfold Yard.loadEntry; rw [h]; simp only [hs, if_true]; rfl

/-- A pallet without a deck entry is not removed, R19. -/
theorem Yard.removeEntry_absent {y : Yard} {env : Env} {cause : NoteCause} {ref : Nat} (h : (y.pallet ref).dep = none) :
    y.removeEntry env cause ref = (0, y) := by
  unfold Yard.removeEntry; rw [h]

end Sys2Proof.Machine
end

