-- ==== Sys2Proof/Tests/Slice0.lean ====
section
/-! SUPPORT. Tests. First the well-formedness checks, each with a term it refuses; then values that the manual works out;
then, for each statement with hypotheses, a state and operands that meet them (`witness_…`), clause by clause. -/

namespace Sys2Proof.Tests

open Sys2Proof Sys2Proof.Machine

-- One test at a time: kernel evaluations that wait for each other would each hold a thread.
set_option Elab.async false

/-! ## Well-formedness -/

theorem test_body_of_240_bytes_fits : (Instr.status 1#8 (List.replicate 240 0#8)).wellFormed = true := by decide +kernel

theorem test_body_of_241_bytes_refused : (Instr.status 1#8 (List.replicate 241 0#8)).wellFormed = false := by
  decide +kernel

theorem test_unknown_kind_refuses_known_kind : (Instr.unknownRequestKind 0x72#8 1#8 []).wellFormed = false := by decide

theorem test_unknown_kind_takes_unknown_kind : (Instr.unknownRequestKind 0x73#8 1#8 []).wellFormed = true := by decide

theorem test_departure_numbers_refused :
    (Instr.callEvent 0).wellFormed = false ∧ (Instr.lateMarginEvent 49).wellFormed = false ∧
      (Instr.cutEvent 0).wellFormed = false ∧ (Instr.cutEvent 48).wellFormed = true := by decide

theorem test_door_numbers_refused :
    (Instr.changeoverEnd 0).wellFormed = false ∧ (Instr.changeoverEnd 33).wellFormed = false := by decide

theorem test_task_ids_refused :
    (Instr.taskExpiry 0).wellFormed = false ∧ (Instr.taskExpiry 65536).wellFormed = false := by decide

/-- The table gives its rows no bits. -/
theorem test_no_word_spells_a_command : decodeTableWord 8 0 = none := by decide

/-! ## A small hub -/

/-- A profile with every lever 500. -/
def profile : Profile :=
  { rows := 8, tiers := 2, clearHeight := 250, payload := 20000, kingpin := 8000, bogie := 9000
    levers := List.replicate 8 500 }

/-- Departure 1 to depot 10 over lane 2, from door 2. -/
def entry : DepartureEntry :=
  { profile := 1, drop1 := 10, drop2 := none, split := 0, primary1 := 2, secondary1 := none, primary2 := none
    secondary2 := none, door := 2, call := 120, cut := 240, batch := 2, reserve := 0 }

def plan : PlanStore :=
  { PlanStore.reset with
    active := { PlanStore.reset.active with
      profiles := ⟨[(1, profile)]⟩
      doors := ⟨[(1, { role := .inbound, gap := 10, mode := .latched }), (2, { role := .outbound, gap := 10, mode := .wave })]⟩
      lanes := ⟨[(2, 3)]⟩
      departures := ⟨[(1, entry)]⟩
      routes := ⟨[(10, [1])]⟩ } }

/-- The floor of an open night with nothing in it. -/
def floor : Floor :=
  { Floor.reset with
    departures := ⟨[(1, .fresh .planned)]⟩
    decks := ⟨[(1, .blank 16)]⟩
    doors := ⟨[(1, { Door.reset with underlying := .inboundFree }), (2, { Door.reset with underlying := .outboundFree })]⟩ }

/-- The hub at minute 100 of an open night. -/
def hub : State :=
  { State.reset with plan := plan, floor := floor, clock := { Clock.opened with minute := 100, second := 30 } }

/-- The hub with the night closed. -/
def shut : State := { hub with clock := .reset }

/-- The hub with another floor. -/
def on (f : Floor) : State := { hub with floor := f }

/-- Departure 1 in a state. -/
def depIn (st : DepState) : Floor := { floor with departures := ⟨[(1, .fresh st)]⟩ }

/-- Door `n` with a record. -/
def doorAs (n : Nat) (r : Door) : Floor := { floor with doors := floor.doors.set Door.reset n r }

/-- A POSTED task of level 3 with 4 lifts. -/
def posted : Task := newTask .posted 3 (.door 1) (.floor 5) [] 4 none

/-- Task 7 QUEUED. -/
def queued : Floor := { floor with tasks := ⟨[(7, posted)]⟩, queues := ⟨[(3, [7])]⟩, movers := ⟨[(5, { state := .idle, last := none })]⟩ }

/-- Task 7 ISSUED to mover 5 at minute 95. -/
def issuedTask : Task := { posted with mover := some 5, lastMover := some 5, issueMinute := some 95 }

def issued : Floor :=
  { floor with tasks := ⟨[(7, issuedTask)]⟩, issued := [7], movers := ⟨[(5, { state := .busy 7, last := none })]⟩ }

/-- Task 7 returned with its mark set. -/
def returned : Floor :=
  { floor with tasks := ⟨[(7, { posted with lastMover := some 5, mark := true })]⟩, queues := ⟨[(3, [7])]⟩ }

/-- A pallet HELD at location 1. -/
def heldPallet : Pallet := { Pallet.blank with label := 77, dest := 10, weight := 400, height := 100, state := .held, loc := some (.floor 1) }

/-- A pallet IN LANE 2 with its entry at position 1, tier 1, of departure 1. -/
def lanePallet : Pallet :=
  { heldPallet with state := .inLane, loc := some (.floor 2), dep := some 1, slot := some (1, 1) }

def stacked : Floor :=
  { floor with
    pallets := ⟨[(0, lanePallet)]⟩
    decks := ⟨[(1, { places := [{ ref := 0, status := .planned }] :: List.replicate 15 [], w := 400, m := 200000, used := 1 })]⟩
    lanes := ⟨[(2, { Lane.reset with present := [0] })]⟩ }

/-- The deck of a CUT departure with one pallet aboard. -/
def aboard : Deck := { places := [{ ref := 0, status := .loaded }] :: List.replicate 15 [], w := 400, m := 200000, used := 1 }

/-- Departure 1 CUT at door 2 with pallet 0 aboard. -/
def departing : Floor :=
  { floor with
    pallets := ⟨[(0, { lanePallet with state := .onTrailer, loc := some (.trailer 1 1 1) })]⟩
    departures := ⟨[(1, { Departure.fresh .cut with doorTaken := true })]⟩
    decks := ⟨[(1, aboard)]⟩
    doors := floor.doors.set Door.reset 2 { Door.reset with underlying := .occupied 1 } }

/-- Request handling takes the frame at once, and nothing else changes by that. -/
abbrev takes (s : State) (kind : Byte) (body : List Byte) : Prop :=
  s.taken { kind := kind, tag := 9#8, body := body } = some s

/-! ## Values that the manual works out -/

/-- R168 names the generator and the start value of the check that the literature calls CRC-16/CCITT-FALSE; its check value
over the characters 1 to 9 is 29B1. -/
theorem test_check_of_123456789 :
    crc [0x31#8, 0x32#8, 0x33#8, 0x34#8, 0x35#8, 0x36#8, 0x37#8, 0x38#8, 0x39#8] = 0x29B1#16 := by decide +kernel

/-- The report record of chapter 10's example. -/
theorem test_report_record_of_chapter_10 :
    ({ minute := 260, object := 7, note := .departure (.cut 2) 1500 1425 75, droppedBefore := 3 } : Report).bytes =
      [0x01#8, 0x05#8, 0x04#8, 0x01#8, 0x07#8, 0x00#8, 0x03#8, 0x00#8, 0xDC#8, 0x05#8, 0x91#8, 0x05#8, 0x4B#8, 0x00#8,
       0x02#8, 0x00#8] := by decide

/-- 9.6: under KEEP with 62 records queued, five reports leave 64 and three pending drops. -/
theorem test_overrun_under_keep :
    let r : Report := { minute := 0, object := 0, note := .wave 0 0, droppedBefore := 0 }
    let l := ({ Link.reset with reports := List.replicate 62 r }.joinAll (List.replicate 5 r))
    l.reports.length = 64 ∧ l.pendingDrops = 3 ∧ l.droppedReports = 3 := by decide +kernel

/-- The plan of chapter 11 at minute 6, door 3 TIPPING. -/
def night11 : State :=
  { State.reset with
    clock := { Clock.opened with minute := 6 }
    plan := { PlanStore.reset with
      active :=
        { night := { waveLength := 30, lateMargin := 10, taskLimit := 10 }
          profiles := ⟨[(1, { rows := 8, tiers := 2, clearHeight := 260, payload := 24000, kingpin := 10000, bogie := 16000
                              levers := [950, 880, 810, 740, 670, 600, 530, 460] })]⟩
          doors := ⟨[(3, { role := .inbound, gap := 10, mode := .latched }), (12, { role := .outbound, gap := 10, mode := .latched })]⟩
          lanes := ⟨[(20, 4), (21, 4)]⟩
          departures := ⟨[(5, { profile := 1, drop1 := 40, drop2 := some 41, split := 3, primary1 := 20, secondary1 := none
                                primary2 := some 21, secondary2 := none, door := 12, call := 60, cut := 120, batch := 2
                                reserve := 2 })]⟩
          routes := ⟨[(40, [5]), (41, [5])]⟩ } }
    floor := { Floor.reset with
      departures := ⟨[(5, .fresh .planned)]⟩
      decks := ⟨[(5, .blank 16)]⟩
      doors := ⟨[(3, { Door.reset with underlying := .tipping }), (12, { Door.reset with underlying := .outboundFree })]⟩
      tips := ⟨[(3, { origin := 9, expected := 3, scanned := 0, openMinute := 5 })]⟩ } }

/-- Three pieces from label 7100 at door 3, 11.2. -/
def scan11 : List Byte := le8 3 ++ le8 3 ++ le32 7100 ++ le8 40 ++ le8 1 ++ le8 0 ++ le8 0 ++ le16 500 ++ le16 120 ++ le16 600

/-- What a test reads of the state after a command. -/
def after (i : Instr) (s : State) : State :=
  match exec i s with
  | .next t => t
  | .fault _ => s
  | .refused _ => s

/-- Chapter 11, minute 6: positions, totals, the lane and the shared task. -/
theorem test_pallet_in_of_chapter_11 :
    let f := (after (.palletIn 1#8 scan11) night11).floor
    (f.deck 5).w = 1500 ∧ (f.deck 5).m = 1110000 ∧ (f.deck 5).k = 1110 ∧ (f.deck 5).b = 390 ∧ (f.deck 5).used = 2 ∧
      (f.deck 5).slots.map (fun x => (x.pos, x.tier, f.labelOf x.entry.ref)) = [(7, 1, 7100), (7, 2, 7101), (8, 1, 7102)] ∧
      f.occupancy 20 = 3 ∧ (f.tip 3).scanned = 3 ∧
      f.tasks.get 1 = some (newTask .tip 2 (.door 3) (.floor 20) [0, 1, 2] 3 none) := by decide +kernel

/-- 11.2: with 500 kg in lane 20's stack at position 7, which bears 600, a third tier is refused and 500 kg are borne. -/
theorem test_stack_check_of_chapter_11 :
    (let pr := { profile with clearHeight := 260 }
     let x : Load := { weight := 500, height := 120, allowance := 600 }
     stackCheck pr [x] x = true ∧ stackCheck pr [x, x] x = false ∧
       stackCheck pr [x] { x with height := 141 } = false ∧ stackCheck pr [x] { x with weight := 601 } = false) := by
  decide

/-- R62: a body whose reserved byte is not 0 is refused with FORMAT. -/
theorem test_reserved_byte_is_refused :
    (after (.palletIn 1#8 (scan11.set 9 1#8)) night11).link.slot = some (refusedFrame 0x31#8 1#8 .format) := by
  decide +kernel

/-! ## Witnesses: the link -/

def someReport : Report := { minute := 3, object := 4, note := .wave 3 60, droppedBefore := 0 }

theorem witness_StepRunsFrontCommand :
    ({ hub with pending := [.minuteTick, .frameSent] } : State).pending = .minuteTick :: [.frameSent] ∧ hub.pending = [] := by
  decide

theorem witness_BreaksAndErrorsDropTheFrame :
    ({ Link.reset with rx := .header [3#8], framingErrors := 65535 } : Link).rx ≠ .hunt ∧ Link.reset.rx = .hunt := by decide

/-- The check bytes of a frame of kind 1 and tag 7 without body. -/
def statusCheck : List Byte := checkBytes [0#8, 1#8, 7#8]

theorem witness_ReceiverAssemblesFrames_characters :
    ({ Link.reset with waitMark := true } : Link).waitMark = true ∧ Link.reset.waitMark = false ∧ Link.reset.rx = .hunt ∧
      0xA4#8 ≠ 0xA5#8 ∧ ({ Link.reset with rx := .header [] } : Link).rx = .header [] ∧
      240 < (241#8).toNat ∧ (240#8).toNat ≤ 240 := by decide

theorem witness_ReceiverAssemblesFrames_lastByte :
    let got : List Byte := [statusCheck.getD 0 0#8]
    let good := statusCheck.getD 1 0#8
    let l : Link := { Link.reset with rx := .body 0#8 1#8 7#8 got }
    l.waitMark = false ∧ got.length = (0#8).toNat + 1 ∧
      (got ++ [good]).drop 0 = checkBytes (0#8 :: 1#8 :: 7#8 :: (got ++ [good]).take 0) ∧
      (got ++ [good + 1#8]).drop 0 ≠ checkBytes (0#8 :: 1#8 :: 7#8 :: (got ++ [good + 1#8]).take 0) ∧
      ({ l with buffer := List.replicate 3 { kind := 1#8, tag := 1#8, body := [] } } : Link).buffer.length < 4 ∧
      4 ≤ ({ l with buffer := List.replicate 4 { kind := 1#8, tag := 1#8, body := [] } } : Link).buffer.length := by
  decide +kernel

theorem witness_FrameBytesAreReceivedWhole :
    ({ kind := 1#8, tag := 2#8, body := List.replicate 240 0xA5#8 } : Frame).body.length ≤ 240 ∧ Link.reset.rx = .hunt ∧
      Link.reset.waitMark = false ∧ Link.reset.buffer.length < 4 ∧
      4 ≤ ({ Link.reset with buffer := List.replicate 4 { kind := 1#8, tag := 1#8, body := [] } } : Link).buffer.length := by
  decide +kernel

theorem witness_TransmitterStartsRepliesFirst :
    let f := refusedFrame 1#8 2#8 .kind
    let reply : Link := { Link.reset with slot := some f }
    let report : Link := { Link.reset with reports := [someReport], pendingDrops := 2 }
    reply.tx = none ∧ reply.slot = some f ∧ report.tx = none ∧ report.slot = none ∧ report.inHand = none ∧
      report.gateOpen = true ∧ report.reports = someReport :: [] ∧
      ({ report with tx := some f.bytes } : Link).tx ≠ none ∧ ({ report with gateOpen := false } : Link).gateOpen = false ∧
      Link.reset.reports = [] ∧ Link.reset.slot = none := by decide +kernel

theorem witness_ReportJoinsOrIsCounted :
    ({ Link.reset with reports := List.replicate 63 someReport } : Link).reports.length < 64 ∧
      64 ≤ ({ Link.reset with reports := List.replicate 64 someReport } : Link).reports.length ∧
      Link.reset.replaceMode = false ∧ ({ Link.reset with replaceMode := true } : Link).replaceMode = true := by
  decide +kernel

/-! ## Witnesses: requests in general -/

theorem witness_EveryRequestTakenGetsOneReply :
    (Instr.status 9#8 []).wellFormed = true ∧
      requestFrame (.status 9#8 []) = some { kind := 0x01#8, tag := 9#8, body := [] } ∧ takes hub 0x01#8 [] ∧
      ({ hub with link := { hub.link with heldInReset := true } } : State).taken
        { kind := 0x01#8, tag := 9#8, body := [] } = none := by decide +kernel

theorem witness_UnknownKindIsRefusedWithKind : 0x03#8 ∉ requestKinds ∧ takes hub 0x03#8 [1#8] := by decide +kernel

theorem witness_StatusAndGetRequestsOnlyRead_status : takes hub 0x01#8 [] ∧ takes hub 0x01#8 [0#8] := by decide +kernel

theorem witness_SetReportsSetsGateAndMode :
    takes hub 0x02#8 [1#8] ∧ takes hub 0x02#8 [2#8, 0#8] ∧ 1 < (2#8).toNat ∧
      takes hub 0x02#8 (flag8 false ++ flag8 true) := by decide +kernel

/-! ## Witnesses: the night -/

theorem witness_NightOpenStartsTheClock :
    takes hub 0x10#8 [1#8] ∧ takes hub 0x10#8 [] ∧ hub.clock.isOpen = true ∧ takes shut 0x10#8 [] ∧
      shut.clock.isOpen = false := by decide +kernel

theorem witness_NightOpenReadiesTheBlocks :
    takes shut 0x10#8 [] ∧ shut.clock.isOpen = false ∧ shut.plan.shadow.count = 0 ∧ shut.floor.pallets = .empty ∧
      (∀ c ∈ shut.plan.active.departures.cells, 0 < c.2.call ∧ shut.plan.active.night.lateMargin < c.2.cut) := by
  decide +kernel

theorem witness_NightCloseClearsTheNight :
    takes hub 0x11#8 [] ∧ hub.clock.isOpen = true ∧ takes shut 0x11#8 [] ∧ shut.clock.isOpen = false := by decide +kernel

/-- Departure 1 CUT with pallet 0 aboard, door 1 TIPPING, and a pallet of each kind that a closing keeps or frees. -/
def closing : Floor :=
  { departing with
    pallets := ⟨[(0, { lanePallet with state := .onTrailer, loc := some (.trailer 1 1 1) }), (1, heldPallet),
      (2, { heldPallet with state := .exception, reason := some .damaged }), (3, { heldPallet with state := .missing }),
      (4, { heldPallet with state := .inTransit, reason := some .damaged }), (5, { heldPallet with state := .inTransit })]⟩
    doors := departing.doors.set Door.reset 1 { Door.reset with underlying := .tipping, faulted := true } }

theorem witness_NightCloseClearsTheNight_records :
    takes (on closing) 0x11#8 [] ∧ closing.pallets.wf = true ∧ (on closing).plan.active.departures.keys = [1] ∧
      (closing.departure 1).state = .cut ∧ (∀ x ∈ (closing.deck 1).slots, x.entry.status = .loaded) ∧
      (closing.deck 1).slots.map (·.entry.ref) = [0] ∧ (closing.departure 1).doorTaken = true ∧
      (closing.door 2).underlying = .occupied 1 ∧ (closing.pallets.get 4).isSome = true ∧
      ((after (.nightClose 9#8 []) (on closing)).floor.pallets.keys = [1, 5]) := by decide +kernel

/-- The hub whose clock has reached its end. -/
def ended : State := { hub with clock := { hub.clock with minute := 1440, second := 0, endReached := true } }

theorem witness_ClockSyncSetsTheClock :
    takes shut 0x12#8 (le16 130 ++ le8 59) ∧ shut.clock.isOpen = false ∧
      takes ended 0x12#8 (le16 1440 ++ le8 0) ∧ ended.clock.isOpen = true ∧ ended.clock.endReached = true ∧
      hub.clock.isOpen = true ∧ hub.clock.endReached = false ∧ hub.clock.minute = 100 ∧
      takes hub 0x12#8 (le16 69 ++ le8 0) ∧ takes hub 0x12#8 (le16 131 ++ le8 0) ∧
      takes hub 0x12#8 (le16 70 ++ le8 0) ∧ takes hub 0x12#8 (le16 130 ++ le8 59) := by decide +kernel

theorem witness_TicksAndSecondsMoveTheClock :
    hub.work = .clear ∧ hub.clock.isOpen = true ∧ hub.clock.endReached = false ∧ hub.clock.second < 59 ∧
      59 ≤ ({ hub.clock with second := 59 } : Clock).second ∧ shut.work = .clear ∧ shut.clock.isOpen = false ∧
      ended.clock.endReached = true := by decide

/-- The hub at minute 120 with the tick's boundary test outstanding. -/
def atBoundary : State :=
  { hub with
    clock := { hub.clock with minute := 120, lastBoundary := 60, wave := 1 }
    plan := { hub.plan with method := .sync }
    work := { started := none, waiting := [.wave 119] } }

theorem witness_BoundariesAndTheEndAreTaken_boundary :
    atBoundary.work.started = none ∧ atBoundary.work.boundarySince = some 119 ∧
      atBoundary.toRun.boundaryDue 119 = some 120 ∧ atBoundary.plan.method = .sync ∧
      (∀ n, (atBoundary.floor.door n).faulted = false) := by
  refine ⟨by decide, by decide, by decide, rfl, fun n => ?_⟩
  by_cases h1 : 1 = n
  · subst h1; decide
  by_cases h2 : 2 = n
  · subst h2; decide
  · show (((cellGet _ n).getD Door.reset)).faulted = false
    simp [atBoundary, hub, floor, cellGet, h1, h2, Door.reset]

theorem witness_BoundariesAndTheEndAreTaken_end :
    ({ hub with clock := { hub.clock with minute := 1440 }, work := { started := none, waiting := [.endOfClock] } }
      : State).toRun.mayTake .endOfClock = true ∧
      hub.plan.active.departures.cells = [(1, entry)] ∧ floor.departures.get 1 = some (.fresh .planned) ∧
      floor.deck 1 = Deck.blank 16 := by decide

/-! ## Witnesses: the plan store -/

/-- A body of each SET request, and the entry it spells. -/
def profileBody : List Byte :=
  le8 1 ++ le8 8 ++ le8 2 ++ le16 250 ++ le16 20000 ++ le16 8000 ++ le16 9000 ++ (List.replicate 15 500).flatMap le16

def departureBody : List Byte :=
  le8 1 ++ le8 0 ++ le8 1 ++ le8 10 ++ le8 0 ++ le8 0 ++ le8 2 ++ le8 0 ++ le8 0 ++ le8 0 ++ le8 2 ++ le16 120 ++
    le16 240 ++ le8 2 ++ le8 0

theorem witness_PlanWritesWaitInTheShadow_writes :
    hub.clock.isOpen = true ∧ hub.plan.method ≠ .immediate ∧
      (takes hub 0x20#8 [15#8, 60#8, 1#8] ∧
        readNight [15#8, 60#8, 1#8] = some (.night { waveLength := 15, lateMargin := 60, taskLimit := 1 })) ∧
      (takes hub 0x21#8 profileBody ∧ profileBody.length = 41 ∧ readProfile profileBody = some (.profile 1 profile)) ∧
      (takes hub 0x22#8 [32#8, 2#8, 60#8, 1#8] ∧
        readDoor [32#8, 2#8, 60#8, 1#8] = some (.door 32 { role := .outbound, gap := 60, mode := .wave })) ∧
      (takes hub 0x23#8 [65#8, 40#8] ∧ readLane [65#8, 40#8] = some (.lane 65 40)) ∧
      (takes hub 0x24#8 departureBody ∧ departureBody.length = 17 ∧
        readDeparture departureBody = some (.departure 1 (.entry entry))) ∧
      (takes hub 0x25#8 [10#8, 1#8, 1#8] ∧ routeLength [10#8, 1#8, 1#8] = true ∧
        readRoute [10#8, 1#8, 1#8] = some (.route 10 [1])) := by decide +kernel

theorem witness_PlanWritesWaitInTheShadow_ranges :
    takes hub 0x20#8 [15#8] ∧ (takes hub 0x20#8 [14#8, 0#8, 1#8] ∧ readNight [14#8, 0#8, 1#8] = none) ∧
      takes hub 0x21#8 [1#8] ∧ (takes hub 0x21#8 (List.replicate 41 0#8) ∧ readProfile (List.replicate 41 0#8) = none) ∧
      takes hub 0x22#8 [1#8] ∧ (takes hub 0x22#8 [33#8, 0#8, 0#8, 0#8] ∧ readDoor [33#8, 0#8, 0#8, 0#8] = none) ∧
      takes hub 0x23#8 [2#8] ∧ (takes hub 0x23#8 [2#8, 41#8] ∧ readLane [2#8, 41#8] = none) ∧
      takes hub 0x24#8 [1#8] ∧
      (takes hub 0x24#8 (List.replicate 17 0#8) ∧ readDeparture (List.replicate 17 0#8) = none) ∧
      (takes hub 0x25#8 [10#8, 1#8] ∧ routeLength [10#8, 1#8] = false) ∧
      (takes hub 0x25#8 [255#8, 0#8] ∧ routeLength [255#8, 0#8] = true ∧ readRoute [255#8, 0#8] = none) := by
  decide +kernel

theorem witness_PlanWritesApplyWhileClosed :
    shut.clock.isOpen = false ∧ shut.plan.shadow = Shadow.empty ∧ takes shut 0x20#8 [120#8, 0#8, 60#8] ∧
      readNight [120#8, 0#8, 60#8] = some (.night { waveLength := 120, lateMargin := 0, taskLimit := 60 }) ∧
      takes shut 0x23#8 [65#8, 1#8] ∧ readLane [65#8, 1#8] = some (.lane 65 1) ∧ shut.plan.active.lanes.get 65 = none ∧
      shut.floor.occupancy 65 ≤ 1 ∧ (shut.floor.lane 65).high = none := by decide +kernel

/-- The hub with the night CLOSED, its departure CLOSED, and lane 2 watched. -/
def shutDown : State :=
  { shut with floor := { depIn .closed with lanes := ⟨[(2, { Lane.reset with high := some 3 })]⟩ } }

/-- Departure 2 to depot 10 over lane 3, and the same plan with that lane. -/
def secondBody : List Byte := departureBody.set 0 2#8 |>.set 6 3#8

def withLane3 : State :=
  { shutDown with
    plan := { plan with active := { plan.active with lanes := ⟨[(2, 3), (3, 1)]⟩ } } }

theorem witness_PlanWritesApplyWhileClosed_later :
    shutDown.clock.isOpen = false ∧ shutDown.plan.shadow = Shadow.empty ∧
      (takes shutDown 0x21#8 (profileBody.set 2 3#8) ∧
        readProfile (profileBody.set 2 3#8) = some (.profile 1 { profile with tiers := 3 }) ∧
        plan.active.profiles.get 1 ≠ some { profile with tiers := 3 } ∧ plan.active.departures.wf = true ∧
        plan.active.departures.get 1 = some entry ∧ (shutDown.floor.deck 1).isEmpty = true ∧ entry.drop2 = none) ∧
      (takes shutDown 0x22#8 [1#8, 2#8, 0#8, 0#8] ∧
        readDoor [1#8, 2#8, 0#8, 0#8] = some (.door 1 { role := .outbound, gap := 0, mode := .latched }) ∧
        plan.active.doors.get 1 ≠ some { role := .outbound, gap := 0, mode := .latched } ∧
        (shutDown.floor.door 1).underlying.isBusy = false ∧ shutDown.floor.waiting = []) ∧
      (takes shutDown 0x23#8 [2#8, 1#8] ∧ readLane [2#8, 1#8] = some (.lane 2 1) ∧
        plan.active.lanes.get 2 ≠ some 1 ∧ shutDown.floor.occupancy 2 ≤ 1) ∧
      (takes withLane3 0x24#8 secondBody ∧ readDeparture secondBody = some (.departure 2 (.entry { entry with primary1 := 3 })) ∧
        withLane3.plan.active.departures.get 2 = none ∧
        (∀ l ∈ ({ entry with primary1 := 3 } : DepartureEntry).lanes, withLane3.plan.active.lanes.has l = true ∧
          withLane3.plan.active.binding l = none) ∧
        ({ entry with primary1 := 3 } : DepartureEntry).lanes.Nodup ∧ entry.call < entry.cut) ∧
      (takes shutDown 0x24#8 (departureBody.set 1 1#8) ∧
        readDeparture (departureBody.set 1 1#8) = some (.departure 1 .withdraw) ∧
        plan.active.departures.has 1 = true ∧ (shutDown.floor.departure 1).state = .closed) ∧
      (takes shutDown 0x25#8 [10#8, 0#8] ∧ routeLength [10#8, 0#8] = true ∧ readRoute [10#8, 0#8] = some (.route 10 []) ∧
        plan.active.routes.get 10 ≠ some []) := by decide +kernel

theorem witness_RejectedEntriesChangeNothing :
    (rejectEntry hub.plan.active true hub.floor (.departure 2 .withdraw)).isSome = true ∧
      hub.plan.active.repeats (.lane 2 3) = true ∧ hub.plan.active.lanes.get 2 ≠ some 2 := by decide +kernel

theorem witness_SetMethodIsInForceAtOnce :
    takes hub 0x26#8 [] ∧ takes hub 0x26#8 [4#8] ∧ 3 < (4#8).toNat ∧ takes hub 0x26#8 (le8 UpdateMethod.sync.code) := by
  decide +kernel

theorem witness_ActivateMakesAnUpdatePoint :
    takes hub 0x27#8 [1#8] ∧ takes hub 0x27#8 [] ∧ hub.plan.shadow = Shadow.empty := by decide +kernel

theorem witness_StatusAndGetRequestsOnlyRead_get :
    takes hub 0x28#8 [0#8, 0#8] ∧
      (takes (on stacked) 0x35#8 (le32 77) ∧ stacked.refOf (u32 (le32 77) 0) = some 0) ∧
      (takes (on queued) 0x47#8 (le16 7) ∧ queued.tasks.get (u16 (le16 7) 0) = some posted) ∧
      (takes hub 0x57#8 [1#8] ∧ hub.plan.active.departures.has 1 = true) ∧ takes hub 0x63#8 [32#8] ∧
      (takes hub 0x72#8 [2#8] ∧ hub.plan.active.lanes.has 2 = true) := by decide +kernel

/-! ## Witnesses: intake -/

theorem witness_TipOpenStartsATip :
    takes hub 0x30#8 ([1#8, 254#8] ++ le16 65535) ∧ hub.clock.isOpen = true ∧
      (hub.floor.door 1).underlying = .inboundFree ∧ (hub.floor.door 1).faulted = false ∧
      takes hub 0x30#8 ([2#8, 1#8] ++ le16 0) ∧ (hub.floor.door 2).underlying ≠ .inboundFree := by decide +kernel

/-- Door 1 TIPPING. -/
def tipping : Floor := doorAs 1 { Door.reset with underlying := .tipping }

theorem witness_TipCloseReportsADifference :
    takes (on tipping) 0x32#8 [1#8] ∧ (tipping.door 1).underlying = .tipping ∧ takes hub 0x32#8 [32#8] ∧
      (hub.floor.door 32).underlying ≠ .tipping := by decide +kernel

/-- A damaged piece, and a sound one, of label 77 at door 1. -/
def damagedScan : List Byte :=
  le8 1 ++ le8 1 ++ le32 77 ++ le8 10 ++ le8 3 ++ le8 1 ++ le8 0 ++ le16 1500 ++ le16 150 ++ le16 2001

theorem witness_DamagedPieceGoesToTheExceptionBay :
    takes (on tipping) 0x31#8 damagedScan ∧ damagedScan.length = 16 ∧ u8 damagedScan 9 = 0 ∧
      (∃ sc, readScan damagedScan = some sc ∧ sc.pieces = 1 ∧ sc.damaged = true ∧ (tipping.door sc.door).underlying = .tipping ∧
        tipping.refOf sc.first = none) ∧
      tipping.pallets.size < 4096 ∧ tipping.tasks.size < 1024 ∧ lowestFree 0 tipping.pallets.cells = 0 ∧
      tipping.pallets.get 0 = none := by
  refine ⟨by decide +kernel, by decide, by decide, ⟨_, rfl, by decide, by decide, by decide, by decide⟩, ?_⟩
  decide

/-- The same piece, sound. -/
def soundScan : List Byte := damagedScan.set 8 0#8

/-- The scan that `soundScan` spells. -/
def sound : Scan :=
  { door := 1, pieces := 1, first := 77, dest := 10, cls := .timed, damaged := false, weight := 1500, height := 150
    allowance := 2000 }

/-- What the scan writes of it, with a consignment. -/
def soundRecord (cons : Option Nat) : Pallet :=
  { label := 77, consignment := cons, origin := 0, dest := 10, cls := .timed, weight := 1500, height := 150
    allowance := 2000, state := .atDoor, loc := some (.door 1), dep := none, slot := none, scanMinute := 100
    reason := none }

/-- A floor with that record in place 0. -/
def scanned (f : Floor) (cons : Option Nat) : Yard := { f with pallets := f.pallets.put 0 (soundRecord cons), notes := [] }

/-- Door 1 TIPPING, the label MISSING with consignment 70. -/
def tippingMissing : Floor :=
  { tipping with pallets := ⟨[(0, { heldPallet with state := .missing, loc := none, consignment := some 70 })]⟩ }

/-- Door 1 TIPPING, departure 1 LOADING. -/
def tippingLoading : Floor := { tipping with departures := ⟨[(1, .fresh .loading)]⟩ }

/-- Door 1 TIPPING, departure 1 CUT. -/
def tippingCut : Floor := { tipping with departures := ⟨[(1, .fresh .cut)]⟩ }

theorem witness_DamagedPieceGoesToTheExceptionBay_sound :
    (takes (on tipping) 0x31#8 soundScan ∧ soundScan.length = 16 ∧ u8 soundScan 9 = 0 ∧ readScan soundScan = some sound ∧
        tipping.refOf 77 = none ∧ tipping.pallets.get 0 = none ∧ plan.active.routes.get 10 = some (1 :: []) ∧
        (tipping.departure 1).state = .planned ∧ tipping.chooseLane hub.toRun.env entry 10 = some 2 ∧
        (tipping.lane 2).high = none ∧ (scanned tipping none).findPlace hub.toRun.env 1 0 = some 16) ∧
      (takes (on tippingMissing) 0x31#8 soundScan ∧ tippingMissing.refOf 77 = some 0 ∧
        (tippingMissing.pallet 0).state = .missing ∧ (tippingMissing.pallet 0).consignment = some 70 ∧
        (scanned tippingMissing (some 70)).findPlace hub.toRun.env 1 0 = some 16) ∧
      (takes (on tippingLoading) 0x31#8 soundScan ∧ (tippingLoading.departure 1).state = .loading ∧
        (tippingLoading.departure 1).hold = false ∧ tippingLoading.deck 1 = Deck.blank 16 ∧ tippingLoading.carrier 0 = none ∧
        tippingLoading.backlogOf 0 = none ∧ (scanned tippingLoading none).findPlace hub.toRun.env 1 0 = some 16) ∧
      (takes (on tippingCut) 0x31#8 soundScan ∧ hub.toRun.env.routeFor (soundRecord none) none = [1] ∧
        plan.active.departures.has 1 = true ∧ (scanned tippingCut none).candidate hub.toRun.env (.door 1) 1 10 = none) := by
  decide +kernel

/-- 16 damaged pieces from label 77. -/
def manyScan : List Byte := damagedScan.set 1 16#8

theorem witness_DamagedPieceGoesToTheExceptionBay_several :
    takes (on tipping) 0x31#8 manyScan ∧ manyScan.length = 16 ∧ u8 manyScan 9 = 0 ∧ tipping.pallets.wf = true ∧
      (∃ sc, readScan manyScan = some sc ∧ 1 < sc.pieces ∧ sc.damaged = true ∧
        ∀ k, k < sc.pieces → tipping.refOf (sc.first + k) = none) ∧
      tipping.pallets.size + 16 ≤ 4096 ∧ tipping.tasks.size < 1024 := by
  refine ⟨by decide +kernel, by decide, by decide, by decide, ⟨_, rfl, by decide, by decide, by decide⟩, by decide⟩

/-- Door 1 TIPPING with label 77 live. -/
def tippingLive : Floor := { tipping with pallets := ⟨[(0, heldPallet)]⟩ }

/-- Labels 76 and 77 together. -/
def twoScan : List Byte := damagedScan.set 1 2#8 |>.set 2 76#8

theorem witness_RescanAndDuplicateChangeNothing :
    (takes hub 0x31#8 damagedScan ∧ ∃ sc, readScan damagedScan = some sc ∧ (hub.floor.door sc.door).underlying ≠ .tipping) ∧
      (takes (on tippingLive) 0x31#8 damagedScan ∧ ∃ sc, readScan damagedScan = some sc ∧ sc.pieces = 1 ∧
        (tippingLive.door sc.door).underlying = .tipping ∧ tippingLive.refOf sc.first = some 0 ∧
        (tippingLive.pallet 0).state ≠ .missing) ∧
      (takes (on tippingLive) 0x31#8 twoScan ∧ twoScan.length = 16 ∧ u8 twoScan 9 = 0 ∧ ∃ sc, readScan twoScan = some sc ∧
        sc.pieces ≠ 1 ∧ 1 < sc.pieces ∧ (tippingLive.refOf (sc.first + 1)).isSome = true) := by
  refine ⟨⟨by decide +kernel, _, rfl, by decide⟩, ⟨by decide +kernel, _, rfl, by decide, by decide, by decide, by decide⟩,
    ⟨by decide +kernel, by decide, by decide, _, rfl, by decide, by decide, by decide⟩⟩

theorem witness_BumpedPalletIsHeldInItsLane :
    takes (on stacked) 0x33#8 (le32 77) ∧ stacked.refOf (u32 (le32 77) 0) = some 0 ∧
      stacked.pallets.get 0 = some lanePallet ∧ lanePallet.loc = some (.floor 2) ∧ lanePallet.dep = some 1 ∧
      lanePallet.slot = some (1, 1) ∧ hub.plan.active.departures.get 1 = some entry ∧
      hub.plan.active.profiles.get entry.profile = some profile ∧ (stacked.departure 1).state = .planned ∧
      ((stacked.deck 1).stackAt 1).length = 1 ∧ stacked.carrier 0 = none ∧ stacked.backlogOf 0 = none ∧
      stacked.tasks.size < 1024 := by decide +kernel

/-- One pallet HELD at location 1. -/
def holding : Floor := { floor with pallets := ⟨[(0, heldPallet)]⟩ }

theorem witness_ReleasePalletFreesTheRecord :
    (takes hub 0x34#8 (le32 77) ∧ hub.floor.refOf (u32 (le32 77) 0) = none) ∧
      (takes (on stacked) 0x34#8 (le32 77) ∧ stacked.refOf (u32 (le32 77) 0) = some 0 ∧
        (stacked.pallet 0).state = .inLane) ∧
      (takes (on holding) 0x34#8 (le32 77) ∧ holding.refOf (u32 (le32 77) 0) = some 0 ∧ (holding.pallet 0).state = .held ∧
        holding.carrier 0 = none ∧ (holding.pallet 0).loc = some (.floor 1)) := by decide +kernel

/-! ## Witnesses: placement and lanes -/

def hubEnv : Env := hub.toRun.env

/-- A pallet for depot 10 waits for its place. -/
def placing : Yard := { holding with notes := [] }

theorem witness_PlacementIsLegalAndKeepsTheLimits : placing.findPlace hubEnv 1 0 = some 1 := by decide +kernel

theorem witness_PlacementIsLegalAndKeepsTheLimits_search :
    hubEnv.depEntry 1 = some entry ∧ hubEnv.profileOf 1 = some profile ∧ (placing.departure 1).state = .planned ∧
      (placing.pallet 0).slot = none ∧ entry.region profile.rows (placing.pallet 0).dest = some (1, 16) := by decide +kernel

theorem witness_PlacementIsLegalAndKeepsTheLimits_totals :
    (∀ d, ({ stacked with notes := [] } : Yard).totalsAgree hubEnv d = true) ∧ 2 ≤ (stacked.deck 1).places.length ∧
      (((stacked.deck 1).stackAt 1).filter fun x => x.ref = 0).length = 1 := by
  refine ⟨fun d => ?_, by decide, by decide⟩
  by_cases h : 1 = d
  · subst h; decide +kernel
  · have hd : hubEnv.depEntry d = none := by
      show cellGet [(1, entry)] d = none
      simp [cellGet, h]
    simp [Floor.totalsAgree, Env.profileOf, hd]

theorem witness_ChosenLaneHasRoomForThePallet :
    placing.chooseLane hubEnv entry 10 = some 2 ∧ entry.dropLanes 10 = 2 :: [] ∧
      placing.occupancy 2 < hubEnv.plan.capacity 2 ∧
      0 < (({ Lane.reset with incoming := 1 } : Lane)).incoming := by decide +kernel

/-! ## Witnesses: movers and tasks -/

theorem witness_MoverOnMakesTheMoverIdle :
    takes hub 0x40#8 [] ∧ takes hub 0x40#8 [25#8] ∧ 24 < (25#8).toNat ∧ takes shut 0x40#8 [24#8] ∧
      shut.clock.isOpen = false ∧ takes (on queued) 0x40#8 [5#8] ∧ (queued.mover 5).state ≠ .off ∧
      takes hub 0x40#8 [1#8] ∧ (hub.floor.mover 1).state = .off ∧ hub.clock.isOpen = true := by decide +kernel

theorem witness_MoverOffReturnsItsTask :
    (takes hub 0x41#8 [24#8] ∧ (hub.floor.mover 24).state = .off) ∧
      (takes (on queued) 0x41#8 [5#8] ∧ (queued.mover 5).state = .idle) ∧
      (takes (on issued) 0x41#8 [5#8] ∧ (issued.mover 5).state = .busy 7 ∧ issued.tasks.get 7 = some issuedTask ∧
        issuedTask.mover = some 5 ∧ issuedTask.kind = .posted ∧ issuedTask.pallets = []) := by decide +kernel

theorem witness_MoverReadyIssuesOneTask :
    (takes (on { queued with dispatchHold := true }) 0x42#8 [5#8] ∧ (queued.mover 5).state = .idle) ∧
      (takes (on queued) 0x42#8 [5#8] ∧ queued.nextTask (on queued).toRun.env = some 7 ∧
        queued.tasks.get 7 = some posted) := by decide +kernel

theorem witness_ReportsAreJudgedByTheTable :
    issuedTask.mover = some 5 ∧ posted.mover = none ∧ posted.lastMover = none ∧
      ({ posted with lastMover := some 5, mark := true } : Task).mark = true ∧
      ({ posted with lastMover := some 5 } : Task).mark = false := by decide

theorem witness_TaskDoneRecordsLifts :
    (takes (on issued) 0x43#8 (le16 7 ++ [5#8, 5#8] ++ le32 0) ∧ issuedTask.remaining < 5 ∧ issuedTask.judge 5 = .current) ∧
      (takes (on issued) 0x43#8 (le16 7 ++ [5#8, 3#8] ++ le32 0) ∧ 3 < issuedTask.remaining) ∧
      (takes (on issued) 0x43#8 (le16 7 ++ [5#8, 4#8] ++ le32 0) ∧ 4 = issuedTask.remaining ∧ issued.backlog = [] ∧
        issued.stalledDeps = [] ∧ issued.tasks.get 7 = some issuedTask) ∧
      (takes (on returned) 0x43#8 (le16 7 ++ [5#8, 4#8] ++ le32 0) ∧
        ∃ t, returned.tasks.get 7 = some t ∧ t.judge 5 = .late ∧ t.kind = .posted ∧ t.pallets = []) := by
  refine ⟨by decide +kernel, by decide +kernel, by decide +kernel, by decide +kernel, _, rfl, by decide, by decide, by decide⟩

/-- A pallet IN TRANSIT on task 7, ISSUED to mover 5. -/
def carrying (t : Task) (p : Pallet) (f : Floor) : Floor :=
  { f with
    pallets := ⟨[(0, p)]⟩
    tasks := ⟨[(7, { t with mover := some 5, lastMover := some 5, issueMinute := some 95 })]⟩
    issued := [7]
    movers := ⟨[(5, { state := .busy 7, last := none })]⟩ }

/-- Two pallets for lane 2; the first has its entry. -/
def tipping7 : Floor :=
  carrying (newTask .tip 1 (.door 1) (.floor 2) [0, 1] 2 none)
    { lanePallet with state := .inTransit, loc := some (.door 1) } { floor with lanes := ⟨[(2, { Lane.reset with incoming := 2 })]⟩ }

def relocating7 : Floor :=
  carrying (newTask .relocate 1 (.door 1) (.floor 1) [0] 1 none) { heldPallet with state := .inTransit, loc := some (.door 1) } floor

def loading7 : Floor :=
  carrying (newTask .load 5 (.floor 2) (.trailer 1 1 1) [0] 1 (some 1)) { lanePallet with state := .loading }
    { stacked with
      departures := ⟨[(1, .fresh .cut)]⟩
      decks := ⟨[(1, { aboard with places := [{ ref := 0, status := .released }] :: List.replicate 15 [] })]⟩ }

/-- TASK DONE of one lift of task 7 by mover 5, label 77 scanned. -/
def oneLift : List Byte := le16 7 ++ [5#8, 1#8] ++ le32 77

theorem witness_LiftsMoveOnePallet_tip :
    takes (on tipping7) 0x43#8 oneLift ∧ tipping7.backlog = [] ∧ tipping7.stalledDeps = [] ∧
      (tipping7.departure 1).state = .planned ∧ 0 < (tipping7.lane 2).incoming ∧
      (∃ t, tipping7.tasks.get 7 = some t ∧ t.mover = some 5 ∧ t.unmoved = 0 :: [1] ∧ t.kind = .tip ∧ t.dst = .floor 2 ∧
        1 < t.remaining) ∧
      ∃ p, tipping7.pallets.get 0 = some p ∧ p.dep = some 1 := by
  refine ⟨by decide +kernel, by decide, by decide, by decide, by decide, ⟨_, rfl, ?_⟩, ⟨_, rfl, rfl⟩⟩; decide

theorem witness_LiftsMoveOnePallet_relocate :
    takes (on relocating7) 0x43#8 oneLift ∧ relocating7.backlog = [] ∧ relocating7.stalledDeps = [] ∧
      (∃ t, relocating7.tasks.get 7 = some t ∧ t.mover = some 5 ∧ t.unmoved = 0 :: [] ∧ t.kind = .relocate ∧
        t.src = .door 1 ∧ t.dst = .floor 1 ∧ t.remaining = 1) ∧ (relocating7.pallets.get 0).isSome = true := by
  refine ⟨by decide +kernel, by decide, by decide, ⟨_, rfl, ?_⟩, rfl⟩; decide

theorem witness_LiftsMoveOnePallet_load :
    takes (on loading7) 0x43#8 oneLift ∧ loading7.backlog = [] ∧ loading7.stalledDeps = [] ∧
      (loading7.departure 1).state = .cut ∧
      (loading7.deck 1).slotOf 0 = some { pos := 1, tier := 1, entry := { ref := 0, status := .released } } ∧
      (loading7.lane 2).low = none ∧
      (∃ t, loading7.tasks.get 7 = some t ∧ t.mover = some 5 ∧ t.unmoved = 0 :: [] ∧ t.kind = .load ∧ t.src = .floor 2 ∧
        t.dep = some 1 ∧ t.remaining = 1) ∧ (loading7.pallets.get 0).isSome = true := by
  refine ⟨by decide +kernel, by decide, by decide, by decide, by decide, by decide, ⟨_, rfl, ?_⟩, rfl⟩; decide

/-- The same for a departure still LOADING, with a second entry LOADED. -/
def lastLoad7 : Floor :=
  { loading7 with
    departures := ⟨[(1, .fresh .loading)]⟩
    decks := ⟨[(1, { aboard with
      places := [{ ref := 0, status := .released }] :: [{ ref := 9, status := .loaded }] :: List.replicate 14 [] })]⟩ }

theorem witness_LiftsMoveOnePallet_lastLoad :
    takes (on lastLoad7) 0x43#8 oneLift ∧ lastLoad7.backlog = [] ∧ lastLoad7.stalledDeps = [] ∧
      lastLoad7.departures.get 1 = some (.fresh .loading) ∧
      (lastLoad7.deck 1).slotOf 0 = some { pos := 1, tier := 1, entry := { ref := 0, status := .released } } ∧
      (∀ z ∈ (lastLoad7.deck 1).slots,
        z = { pos := 1, tier := 1, entry := { ref := 0, status := .released } } ∨ z.entry.status = .loaded) ∧
      (lastLoad7.lane 2).low = none ∧ lastLoad7.tasks = loading7.tasks ∧ lastLoad7.pallets = loading7.pallets := by
  decide +kernel

/-- LOAD task 7 with its departure in a state. -/
def loadIn (r : Departure) : Floor := { loading7 with departures := ⟨[(1, r)]⟩ }

/-- TASK FAIL BLOCKED of task 7 by mover 5. -/
def blocked7 : List Byte := le16 7 ++ [5#8, 2#8]

theorem witness_BlockedTaskReturnsToItsQueue_load :
    (loading7.tasks.size ≤ 1024 ∧ ∃ t, loading7.tasks.get 7 = some t ∧ t.kind = .load ∧ t.src = .floor 2 ∧ t.dep = some 1 ∧
        t.unmoved = [0] ∧ t.mover = some 5 ∧ t.lastMover = some 5 ∧ t.level < 6) ∧
      (loading7.pallets.get 0 = some { lanePallet with state := .loading } ∧ lanePallet.loc = some (.floor 2)) ∧
      (takes (on (loadIn { Departure.fresh .loading with hold := true, marginMark := true })) 0x44#8 blocked7 ∧
        (loadIn { Departure.fresh .loading with hold := true, marginMark := true }).stalledDeps = []) ∧
      (takes (on (loadIn (.fresh .stopping))) 0x44#8 blocked7 ∧ takes (on (loadIn (.fresh .stopped))) 0x44#8 blocked7 ∧
        (∀ c ∈ loading7.tasks.cells, c.1 = 7) ∧ (loadIn (.fresh .stopping)).stalledDeps = [] ∧ loading7.backlog = []) ∧
      (takes (on loading7) 0x44#8 blocked7 ∧ loading7.departures.get 1 = some (.fresh .cut) ∧ lanePallet.dep = some 1 ∧
        lanePallet.slot = some (1, 1) ∧ ((loading7.deck 1).stackAt 1).length = 1 ∧
        hub.toRun.env.routeFor { lanePallet with state := .loading } (some 1) = []) := by
  refine ⟨⟨by decide, _, rfl, by decide⟩, by decide, by decide +kernel, by decide +kernel, by decide +kernel⟩

/-- TIP task 7 of the one pallet with its entry on PLANNED departure 1. -/
def tippingOne7 : Floor :=
  { carrying (newTask .tip 1 (.door 1) (.floor 2) [0] 1 none) { lanePallet with state := .inTransit, loc := some (.door 1) }
      stacked with
    lanes := ⟨[(2, { Lane.reset with incoming := 1 })]⟩ }

theorem witness_FailedTasksEnd_damaged :
    takes (on tippingOne7) 0x44#8 (le16 7 ++ [5#8, 3#8]) ∧
      (∃ t, tippingOne7.tasks.get 7 = some t ∧ t.kind = .tip ∧ t.src = .door 1 ∧ t.dst = .floor 2 ∧ t.unmoved = [0] ∧
        t.mover = some 5 ∧ t.lastMover = some 5) ∧
      (tippingOne7.pallets.get 0 = some { lanePallet with state := .inTransit, loc := some (.door 1) } ∧
        lanePallet.dep = some 1 ∧ lanePallet.slot = some (1, 1)) ∧
      tippingOne7.departures.get 1 = some (.fresh .planned) ∧ ((tippingOne7.deck 1).stackAt 1).length = 1 ∧
      (tippingOne7.lane 2).low = none ∧ tippingOne7.tasks.wf = true ∧ tippingOne7.tasks.size < 1024 ∧
      (∀ c ∈ tippingOne7.tasks.cells, c.1 = 7) ∧ tippingOne7.allocId = 1 ∧ tippingOne7.tasks.get 1 = none ∧
      tippingOne7.backlog = [] ∧ tippingOne7.stalledDeps = [] := by
  refine ⟨by decide +kernel, ⟨_, rfl, by decide⟩, by decide +kernel⟩

theorem witness_FailedTasksEnd_stopping :
    takes (on (loadIn (.fresh .stopping))) 0x44#8 (le16 7 ++ [5#8, 1#8]) ∧
      (∃ t, (loadIn (.fresh .stopping)).tasks.get 7 = some t ∧ t.kind = .load ∧ t.dep = some 1 ∧ t.unmoved = [0] ∧
        t.mover = some 5) ∧
      loading7.pallets.get 0 = some { lanePallet with state := .loading } ∧ lanePallet.dep = some 1 ∧
      lanePallet.slot = some (1, 1) ∧ lanePallet.loc = some (.floor 2) ∧ ((loading7.deck 1).stackAt 1).length = 1 ∧
      (loading7.lane 2).low = none ∧ loading7.tasks.wf = true ∧ (∀ c ∈ loading7.tasks.cells, c.1 = 7) ∧
      loading7.backlog = [] ∧ (loadIn (.fresh .stopping)).stalledDeps = [] := by
  refine ⟨by decide +kernel, ⟨_, rfl, by decide⟩, by decide +kernel⟩

/-- TASK FAIL NOT FOUND of a STOPPING departure's last issued task, R106: the STOPPED note comes first and still counts the
failed pallet (W of its deck), then the PALLET NOTE MISSING. -/
theorem test_failEndsIssueFirst :
    (after (.taskFail 9#8 (le16 7 ++ [5#8, 1#8])) (on (loadIn (.fresh .stopping)))).link.reports.map (·.note) =
      [.departure .stopped 400 200 200, .pallet 77 (.missing .notFound)] := by decide +kernel

theorem witness_FailedTasksEnd :
    (takes (on issued) 0x44#8 (le16 7 ++ [5#8, 0#8]) ∧ takes (on issued) 0x44#8 (le16 7 ++ [5#8, 4#8]) ∧
        takes (on issued) 0x44#8 (le16 7 ++ [5#8, 3#8]) ∧ issued.tasks.get 7 = some issuedTask ∧
        issuedTask.mover = some 5 ∧ issuedTask.kind = .posted ∧ issuedTask.pallets = [] ∧ issued.backlog = [] ∧
        issued.stalledDeps = []) ∧
      (takes (on relocating7) 0x44#8 (le16 7 ++ [5#8, 1#8]) ∧
        (∀ c ∈ relocating7.tasks.cells, c.1 = 7) ∧
        ∃ p, relocating7.pallets.get 0 = some p ∧ p.dep = none ∧ p.loc = some (.door 1)) := by
  refine ⟨by decide +kernel, by decide +kernel, by decide, ⟨_, rfl, ?_⟩⟩; decide

theorem witness_BlockedTaskReturnsToItsQueue :
    takes (on issued) 0x44#8 (le16 7 ++ [5#8, 2#8]) ∧ issued.tasks.get 7 = some issuedTask ∧ issuedTask.mover = some 5 ∧
      issuedTask.lastMover = some 5 ∧ issuedTask.kind = .posted ∧ issuedTask.pallets = [] := by decide +kernel

theorem witness_ExpiryRaisesTheLevelAndMarks :
    ({ started := none, waiting := [.expiry [7]] } : Work).expiring = 7 :: [] ∧ issued.tasks.get 7 = some issuedTask ∧
      issuedTask.kind = .posted ∧ issuedTask.pallets = [] ∧ issuedTask.dep = none ∧ issuedTask.mover = some 5 := by
  decide

/-- A POST TASK from door 1 to location 65. -/
def postBody : List Byte := [7#8, 0#8, 1#8, 0#8, 0#8, 1#8, 65#8, 0#8, 0#8, 16#8]

theorem witness_PostTaskCreatesOneTask :
    takes hub 0x45#8 postBody ∧ postBody.length = 10 ∧ postedLoc postBody 1 = some (.door 1) ∧
      postedLoc postBody 5 = some (.floor 65) ∧ u8 postBody 0 ≤ 7 ∧ 1 ≤ u8 postBody 9 ∧ u8 postBody 9 ≤ 16 ∧
      hub.floor.tasks.size < 1024 := by decide +kernel

/-- A pool of 1024 tasks. -/
def fullPool : Floor := { floor with tasks := ⟨(List.range' 1 1024).map fun id => (id, posted)⟩ }

theorem witness_PostTaskCreatesOneTask_full : takes (on fullPool) 0x45#8 postBody ∧ 1024 ≤ fullPool.tasks.size := by
  decide +kernel

theorem witness_DispatchHoldSetsTheFlag :
    takes hub 0x46#8 [] ∧ (takes hub 0x46#8 [2#8] ∧ 1 < (2#8).toNat) ∧ takes hub 0x46#8 (flag8 true) ∧ ({ floor with dispatchHold := true } : Floor).dispatchHold = true := by decide +kernel

/-! ## Witnesses: departures -/

theorem witness_CallTakesTheDoorOrWaits :
    (hub.clock.isOpen = true ∧ hub.plan.active.departures.get 1 = some entry ∧
        (hub.plan.active.doorEntry 2).role = .outbound ∧ floor.departures.get 1 = some (.fresh .planned)) ∧
      (takes (on (depIn .cut)) 0x50#8 [1#8] ∧ (depIn .cut).departures.get 1 = some (.fresh .cut)) ∧
      (takes (on (doorAs 2 { Door.reset with faulted := true })) 0x50#8 [1#8] ∧
        ((doorAs 2 { Door.reset with faulted := true }).door 2).faulted = true) ∧
      (takes hub 0x50#8 [1#8] ∧ (floor.door 2).faulted = false ∧ (floor.door 2).underlying = .outboundFree ∧
        floor.deck 1 = Deck.blank 16) := by decide +kernel

theorem witness_CutNowCutsADeparture :
    (takes (on (depIn .closed)) 0x51#8 [1#8] ∧ (depIn .closed).departures.get 1 = some (.fresh .closed)) ∧
      (takes (on (depIn .loading)) 0x51#8 [1#8] ∧ (depIn .loading).departures.get 1 = some (.fresh .loading) ∧
        (depIn .loading).deck 1 = Deck.blank 16) := by decide +kernel

/-- The hub with a second departure to depot 10 on its route, over lane 3. -/
def twoDepartures : State :=
  { on { stacked with
      departures := ⟨[(1, .fresh .planned), (2, .fresh .planned)]⟩
      decks := ⟨stacked.decks.cells ++ [(2, .blank 16)]⟩ } with
    plan := { plan with active := { plan.active with
      lanes := ⟨[(2, 3), (3, 1)]⟩
      departures := ⟨[(1, entry), (2, { entry with primary1 := 3 })]⟩
      routes := ⟨[(10, [2, 1])]⟩ } } }

/-- The floor on which a cut-off of departure 1 offers its pallet. -/
def cutYard (f : Floor) : Yard :=
  { f with
    departures := f.departures.put 1 { Departure.fresh .planned with callMark := true, marginMark := true, cutMark := true }
    decks := f.decks.put 1 ((stacked.deck 1).pull profile 1 0 400)
    pallets := f.pallets.put 0 { lanePallet with dep := none, slot := none }
    notes := [] }

theorem witness_CutNowCutsADeparture_removing :
    (stacked.deck 1).slots = [{ pos := 1, tier := 1, entry := { ref := 0, status := .planned } }] ∧
      stacked.pallets.get 0 = some lanePallet ∧ lanePallet.state = .inLane ∧ lanePallet.weight = 400 ∧
      lanePallet.slot = some (1, 1) ∧ stacked.carrier 0 = none ∧ stacked.backlogOf 0 = none ∧ stacked.tasks.size < 1024 ∧
      stacked.departures.get 1 = some (.fresh .planned) ∧
      (takes twoDepartures 0x51#8 [1#8] ∧ twoDepartures.toRun.env.routeFor lanePallet (some 1) = 2 :: [] ∧
        (twoDepartures.floor.departure 2).state = .planned ∧
        (cutYard twoDepartures.floor).findPlace twoDepartures.toRun.env 2 0 = some 1) ∧
      (takes (on stacked) 0x51#8 [1#8] ∧ hub.toRun.env.routeFor lanePallet (some 1) = []) := by decide +kernel

/-- Departure 1 LOADING and held, its one entry PLANNED with the pallet in lane 2. -/
def heldLoading : Floor := { stacked with departures := ⟨[(1, { Departure.fresh .loading with hold := true })]⟩ }

theorem witness_HoldAndFreeSetTheHoldFlag_release :
    takes (on heldLoading) 0x53#8 [1#8] ∧
      (heldLoading.deck 1).slots = [{ pos := 1, tier := 1, entry := { ref := 0, status := .planned } }] ∧
      (heldLoading.deck 1).countOf .released = 0 ∧ 1 ≤ entry.batch ∧ heldLoading.pallets.get 0 = some lanePallet ∧
      lanePallet.loc = some (.floor 2) ∧ heldLoading.tasks.size < 1024 ∧
      takes (on { heldLoading with tasks := ⟨(List.range' 1 1024).map fun id => (id, posted)⟩ }) 0x53#8 [1#8] := by
  decide +kernel

theorem witness_HoldAndFreeSetTheHoldFlag :
    (takes (on (depIn .closed)) 0x52#8 [1#8] ∧ takes (on (depIn .closed)) 0x53#8 [1#8]) ∧
      (takes (on (depIn .loading)) 0x52#8 [1#8] ∧ takes (on (depIn .loading)) 0x53#8 [1#8] ∧
        (depIn .loading).deck 1 = Deck.blank 16) := by decide +kernel

/-- Departure 1 LOADING with one entry whose DIRECT task is ISSUED. -/
def loadingOne : Floor :=
  { depIn .loading with
    tasks := ⟨[(7, { issuedTask with kind := .direct, pallets := [0], total := 1, dep := some 1 })]⟩
    decks := ⟨[(1, { places := [{ ref := 0, status := .released }] :: List.replicate 15 [], w := 400, m := 200000, used := 1 })]⟩ }

theorem witness_AbortAndResumeStopAndGoOn :
    (takes hub 0x54#8 [1#8] ∧ takes hub 0x55#8 [1#8]) ∧
      (takes (on (depIn .loaded)) 0x54#8 [1#8] ∧ (depIn .loaded).unissued 1 = [] ∧ (depIn .loaded).issuedLoads 1 = 0) ∧
      (takes (on loadingOne) 0x54#8 [1#8] ∧ loadingOne.unissued 1 = [] ∧ loadingOne.issuedLoads 1 ≠ 0) ∧
      (takes (on (depIn .stopped)) 0x55#8 [1#8] ∧ (depIn .stopped).departures.get 1 = some (.fresh .stopped) ∧
        (depIn .stopped).deck 1 = Deck.blank 16) := by decide +kernel

theorem witness_DepartClosesAndStartsTheChangeover :
    takes hub 0x56#8 [1#8] ∧ takes (on departing) 0x56#8 [1#8] ∧ (departing.departure 1).doorTaken = true ∧
      departing.deck 1 = aboard ∧ (∀ x ∈ aboard.slots, x.entry.status = .loaded) ∧
      0 < (hub.plan.active.doorEntry entry.door).gap := by decide +kernel

/-- The hub at a minute, with the tick's examination outstanding. -/
def atMinute (m : Nat) (f : Floor) : State :=
  { on f with clock := { hub.clock with minute := m }, work := { started := none, waiting := [.departures] } }

/-- Departure 1 with its marks up to an event. -/
def marked (st : DepState) (call margin : Bool) : Floor :=
  { floor with departures := ⟨[(1, { Departure.fresh st with callMark := call, marginMark := margin })]⟩ }

theorem witness_DueEventsActOnTheirDeparture_call :
    (let s := atMinute 120 (doorAs 2 { Door.reset with faulted := true })
     s.toRun.mayTake .departures = true ∧ s.toRun.firstDue = some (1, .call) ∧
       s.floor.departures.get 1 = some (.fresh .planned) ∧ (s.floor.door 2).faulted = true) ∧
    (let s := atMinute 120 (marked .loading false false)
     s.toRun.mayTake .departures = true ∧ s.toRun.firstDue = some (1, .call)) := by decide +kernel

theorem witness_DueEventsActOnTheirDeparture_later :
    (let s := atMinute 225 (marked .loading true false)
     s.toRun.mayTake .departures = true ∧ s.toRun.firstDue = some (1, .margin) ∧ s.floor.queue 5 = []) ∧
    (let s := atMinute 240 (marked .closed true true)
     s.toRun.mayTake .departures = true ∧ s.toRun.firstDue = some (1, .cut)) ∧
    (let s := atMinute 240 (marked .loading true true)
     s.toRun.mayTake .departures = true ∧ s.toRun.firstDue = some (1, .cut) ∧ s.floor.deck 1 = Deck.blank 16) := by
  decide +kernel

/-! ## Witnesses: doors and lanes -/

theorem witness_DoorFaultsAreSetClearedAndReleased :
    takes shut 0x60#8 [32#8] ∧ takes shut 0x61#8 [1#8] ∧
      (takes hub 0x62#8 [1#8] ∧ (hub.floor.door 1).faulted = false) ∧
      (takes (on (doorAs 1 { Door.reset with faulted := true, underlying := .tipping })) 0x62#8 [1#8] ∧
        floor.waiting = []) := by decide +kernel

/-- Door 2 in CHANGEOVER until minute 100, its end outstanding. -/
def changing : State :=
  { on (doorAs 2 { Door.reset with underlying := .changeover 100 }) with work := { started := none, waiting := [.doors] } }

theorem witness_ChangeoverEndFreesTheDoor :
    changing.toRun.mayTake .doors = true ∧ changing.floor.changeoverDue changing.clock.minute 2 = true ∧
      changing.floor.waiting = [] := by decide +kernel

theorem witness_WatchLanesSetsTheLimits :
    (takes shut 0x70#8 [65#8, 1#8, 255#8] ∧ shut.plan.active.lanes.get 65 = none) ∧
      (takes shut 0x70#8 [2#8, 40#8, 39#8] ∧ shut.plan.active.lanes.get 2 = some 3) ∧
      takes shut 0x70#8 [255#8, 255#8, 0#8] := by decide +kernel

/-- Lane 2 watched at 1, and the same with an alert pending. -/
def watched : Yard := { floor with lanes := ⟨[(2, { Lane.reset with incoming := 1, high := some 1 })]⟩, notes := [] }

def alerted : Yard :=
  { watched with
    lanes := ⟨[(2, { Lane.reset with incoming := 1, high := some 1, alert := some { kind := .low, minute := 9, merged := 255 } })]⟩ }

theorem witness_AlertsMergeUntilAcknowledged :
    takes shut 0x71#8 [] ∧ (takes shut 0x71#8 [66#8] ∧ 65 < (66#8).toNat) ∧
      (takes shut 0x71#8 [2#8] ∧ (shut.floor.lane 2).alert = none) ∧
      (takes (on alerted.toFloor) 0x71#8 [2#8] ∧ (alerted.lane 2).alert.isSome = true) ∧
      ((watched.lane 2).crossed (floor.occupancy 2) (watched.occupancy 2) = some (.high, 1) ∧
        (watched.lane 2).alert = none) ∧
      (alerted.lane 2).crossed (floor.occupancy 2) (alerted.occupancy 2) = some (.high, 1) ∧
      ({ Lane.reset with low := some 0 } : Lane).crossed 1 0 = some (.low, 0) := by decide +kernel

/-! ## Witnesses: invariants -/

/-- Task 7 ISSUED and task 8 QUEUED, one pallet HELD. -/
def busyFloor : Floor :=
  { issued with
    pallets := holding.pallets
    tasks := ⟨[(7, issuedTask), (8, posted)]⟩
    queues := ⟨[(3, [8])]⟩ }

theorem witness_EveryStepKeepsLabelsAndPool :
    let s : State := { on busyFloor with pending := [.moverOff 9#8 [5#8]] }
    s.tablesRise = true ∧ s.floor.labelsDiffer = true ∧ s.floor.poolAgrees = true ∧
      (match step s with | .next t => t.floor.queue 3 == [8, 7] | .fault _ => false | .refused _ => false) = true := by
  decide +kernel

/-- Each invariant holds of an open night in which a step is taken. -/
theorem witness_EveryStepKeeps :
    let s : State := { hub with pending := [.minuteTick] }
    s.link.within = true ∧ s.clockWithin = true ∧ s.tablesRise = true ∧
      (match step s with | .next t => t.clock.minute == 101 | .fault _ => false | .refused _ => false) = true := by
  decide +kernel

end Sys2Proof.Tests
end

namespace Sys2Proof.Machine

/-! ## Canonical tables: the floor

`Yard.Rises` says of a floor what `Floor.tablesRise` says. One lemma `Yard.Rises.op` for each operation `op` of the model,
with its arguments implicit, so that a proof about a composed operation is the chain of its parts' names. -/

/-- Every table of the floor has its canonical form. -/
structure Yard.Rises (y : Yard) : Prop where
  pallets : y.pallets.wf = true
  tips : y.tips.wf = true
  decks : y.decks.wf = true
  departures : y.departures.wf = true
  doors : y.doors.wf = true
  lanes : y.lanes.wf = true
  tasks : y.tasks.wf = true
  queues : y.queues.wf = true
  movers : y.movers.wf = true

theorem Yard.rises_iff {y : Yard} : y.Rises ↔ y.tablesRise = true := by
  simp only [Floor.tablesRise, Bool.and_eq_true, and_assoc]
  exact ⟨fun ⟨h1, h2, h3, h4, h5, h6, h7, h8, h9⟩ => ⟨h1, h2, h3, h4, h5, h6, h7, h8, h9⟩,
    fun ⟨h1, h2, h3, h4, h5, h6, h7, h8, h9⟩ => ⟨h1, h2, h3, h4, h5, h6, h7, h8, h9⟩⟩

/-- What each element's step keeps, a fold over any list keeps. -/
theorem foldl_keeps {α σ : Type} {P : σ → Prop} {g : σ → α → σ} (hg : ∀ {z : σ} {a : α}, P z → P (g z a)) :
    ∀ {l : List α} {y : σ}, P y → P (l.foldl g y)
  | [], _, h => h
  | _ :: l, _, h => foldl_keeps (l := l) hg (hg h)

namespace Yard.Rises

variable {y z : Yard} {env : Env}

theorem ite {p : Prop} [Decidable p] (h : y.Rises) (hz : z.Rises) : (if p then y else z).Rises := by
  split
  · exact h
  · exact hz

/-! ### One record or list is written -/

theorem setPallet {ref p} (h : y.Rises) : (y.setPallet ref p).Rises := { h with pallets := Tab.wf_put _ _ _ h.pallets }

theorem modPallet {ref g} (h : y.Rises) : (y.modPallet ref g).Rises :=
  { h with pallets := Tab.wf_modify _ _ _ h.pallets }

theorem setTip {n t} (h : y.Rises) : (y.setTip n t).Rises := { h with tips := Tab.wf_set _ _ _ _ h.tips }

theorem setDeck {d k} (h : y.Rises) : (y.setDeck d k).Rises := { h with decks := Tab.wf_put _ _ _ h.decks }

theorem modDep {d g} (h : y.Rises) : (y.modDep d g).Rises := { h with departures := Tab.wf_modify _ _ _ h.departures }

theorem setDoor {n r} (h : y.Rises) : (y.setDoor n r).Rises := { h with doors := Tab.wf_set _ _ _ _ h.doors }

theorem setLane {l r} (h : y.Rises) : (y.setLane l r).Rises := { h with lanes := Tab.wf_set _ _ _ _ h.lanes }

theorem setMover {m r} (h : y.Rises) : (y.setMover m r).Rises := { h with movers := Tab.wf_set _ _ _ _ h.movers }

theorem setQueue {k q} (h : y.Rises) : (y.setQueue k q).Rises := { h with queues := Tab.wf_set _ _ _ _ h.queues }

theorem modTask {id g} (h : y.Rises) : (y.modTask id g).Rises := { h with tasks := Tab.wf_modify _ _ _ h.tasks }

theorem note {n o} (h : y.Rises) : (y.note env o n).Rises := { h with }

theorem withWaiting {w} (h : y.Rises) : Yard.Rises { y with waiting := w } := { h with }

theorem withIssued {w} (h : y.Rises) : Yard.Rises { y with issued := w } := { h with }

theorem withBacklog {w} (h : y.Rises) : Yard.Rises { y with backlog := w } := { h with }

/-! ### Lanes and the watch -/

theorem laneExpect {l} (h : y.Rises) : (y.laneExpect l).Rises := h.setLane

theorem laneUnexpect {l} (h : y.Rises) : (y.laneUnexpect l).Rises := h.setLane

theorem laneArrive {l ref} (h : y.Rises) : (y.laneArrive l ref).Rises := h.setLane

theorem laneLeave {l ref} (h : y.Rises) : (y.laneLeave l ref).Rises := h.setLane

theorem leaveLoc {loc ref} (h : y.Rises) : (y.leaveLoc loc ref).Rises := by
  unfold Yard.leaveLoc
  split
  · split
    · exact h.laneLeave
    · exact h
  · exact h

theorem unexpectAt {dst} (h : y.Rises) : (y.unexpectAt dst).Rises := by
  unfold Yard.unexpectAt
  split
  · exact h.laneUnexpect
  · exact h

theorem crossing {l kind limit} (h : y.Rises) : (y.crossing env l kind limit).Rises := by
  unfold Yard.crossing
  simp only
  split
  · exact h.setLane
  · exact h.setLane.note

theorem watchLane {before l} (h : y.Rises) : (y.watchLane env before l).Rises := by
  unfold Yard.watchLane
  split
  · exact h.crossing
  · exact h

theorem watch {before} (h : y.Rises) : (y.watch env before).Rises := foldl_keeps watchLane h

/-! ### Pool, queues and movers -/

theorem enqueue {k id} (h : y.Rises) : (y.enqueue k id).Rises := h.setQueue

theorem dequeue {k id} (h : y.Rises) : (y.dequeue k id).Rises := h.setQueue

theorem addTask {t} (h : y.Rises) : (y.addTask t).Rises :=
  enqueue { h with tasks := Tab.wf_put _ _ _ h.tasks }

theorem createTask {t r} (h : y.Rises) (hr : y.createTask t = some r) : r.2.Rises := by
  obtain ⟨-, -, hz⟩ := Yard.createTask_cases hr
  exact hz ▸ h.addTask

theorem askTask {kind level src dst ref} (h : y.Rises) : (y.askTask kind level src dst ref).2.Rises := by
  rcases y.askTask_cases kind level src dst ref with ⟨-, he⟩ | ⟨-, he⟩ <;> rw [he]
  · exact h.addTask
  · exact h.withBacklog

theorem dropBacklog {ref} (h : y.Rises) : (y.dropBacklog ref).Rises := h.withBacklog

theorem admitBacklog (h : y.Rises) : y.admitBacklog.Rises := by
  unfold Yard.admitBacklog
  split
  · exact h
  · split
    · exact h
    · exact h.withBacklog.addTask

theorem takeTaskOut {id} (h : y.Rises) : (y.takeTaskOut id).Rises := by
  unfold Yard.takeTaskOut
  split
  · exact h
  · exact dequeue { h with tasks := Tab.wf_erase _ _ h.tasks }

theorem freeMover {id st} (h : y.Rises) : (y.freeMover id st).Rises := by
  unfold Yard.freeMover
  split
  · exact h
  · exact h.setMover

theorem freePallet {ref} (h : y.Rises) : (y.freePallet ref).Rises :=
  { h with pallets := Tab.wf_erase _ _ h.pallets, tasks := Tab.wf_map _ (fun c => c.2.forget ref) h.tasks }

/-! ### Deck entries -/

theorem place {d ref pos} (h : y.Rises) : (y.place env d ref pos).Rises := by
  unfold Yard.place
  split
  · exact h
  · exact h.setDeck.modPallet.modDep

theorem tryPlace {d ref} (h : y.Rises) (hz : y.tryPlace env d ref = some z) : z.Rises := by
  obtain ⟨pos, -, rfl⟩ := Yard.tryPlace_some hz
  exact h.place

theorem shiftStatus {d ref src dst} (h : y.Rises) : (y.shiftStatus d ref src dst).Rises := h.setDeck

theorem pullEntry {d ref pos} (h : y.Rises) : (y.pullEntry env d ref pos).Rises := by
  unfold Yard.pullEntry
  split
  · exact h
  · exact h.setDeck.modPallet

theorem loadEntry {d ref} (h : y.Rises) : (y.loadEntry d ref).Rises := by
  unfold Yard.loadEntry
  split
  · split
    · exact h.shiftStatus.modPallet
    · exact h
  · exact h

/-! ### Departure control's release and the pool's leavers -/

theorem depNote {d e} (h : y.Rises) : (y.depNote env d e).Rises := h.note

theorem releaseEntry {d s} (h : y.Rises) (hz : y.releaseEntry d s = some z) : z.Rises := by
  unfold Yard.releaseEntry at hz
  split at hz
  · cases hz
  · obtain ⟨r, hr, rfl⟩ := Option.map_eq_some_iff.mp hz
    exact (h.createTask hr).shiftStatus

theorem releaseWalk {d batch} : ∀ {l : List Slot} {y : Yard}, y.Rises → (releaseWalk d batch l y).Rises
  | [], _, h => h
  | s :: rest, y, h => by
    unfold Machine.releaseWalk
    split
    · exact releaseWalk h
    · exact releaseWalk h
    · split
      · split
        · rename_i hz; exact releaseWalk (h.releaseEntry hz)
        · exact h.modDep
      · exact h

theorem release {d} (h : y.Rises) : (y.release env d).Rises := by
  unfold Yard.release
  split
  · exact h
  · split
    · exact h.releaseWalk
    · exact h

theorem loadedTest {d} (h : y.Rises) : (y.loadedTest env d).Rises := by
  unfold Yard.loadedTest
  split
  · exact h.modDep.depNote
  · exact h

theorem stopTest {d} (h : y.Rises) : (y.stopTest env d).Rises := by
  unfold Yard.stopTest
  split
  · exact h.modDep.depNote
  · exact h

theorem evaluate {d} (h : y.Rises) : (y.evaluate env d).Rises := by
  unfold Yard.evaluate
  split
  · exact h
  · exact h.release.loadedTest.stopTest

theorem wakeStalled (h : y.Rises) : (y.wakeStalled env).Rises := foldl_keeps evaluate (foldl_keeps modDep h)

theorem leavePool {id} (h : y.Rises) : (y.leavePool env id).Rises := by
  unfold Yard.leavePool
  split
  · exact h.takeTaskOut.admitBacklog.wakeStalled
  · exact h

/-! ### Routing and removal -/

theorem routeOver {stand ref} :
    ∀ {ds : List Nat} {r : Routed}, y.Rises → y.routeOver env stand ref ds = some r → r.yard.Rises
  | [], _, _, hr => by cases hr
  | d :: rest, r, h, hr => by
    unfold Yard.routeOver at hr
    split at hr
    · exact routeOver h hr
    · split at hr
      · rename_i hz; cases hr; exact h.tryPlace hz
      · exact routeOver h hr

theorem route {stand ref without r} (h : y.Rises) (hr : y.route env stand ref without = some r) : r.yard.Rises :=
  h.routeOver hr

theorem giveMove {stand ref lane} (h : y.Rises) : (y.giveMove stand ref lane).Rises := by
  unfold Yard.giveMove
  split
  · exact h
  · exact h.modPallet.laneExpect.askTask

theorem bindHold {ref} (h : y.Rises) : (y.bindHold ref).2.Rises := by
  unfold Yard.bindHold
  simp only
  split
  · exact h.modPallet.askTask
  · exact h.modPallet.askTask
  · exact h.modPallet
  · exact h

theorem takeOffTask {id ref} (h : y.Rises) : (y.takeOffTask env id ref).Rises := by
  unfold Yard.takeOffTask
  simp only
  split
  · split
    · exact h.modTask.leavePool
    · exact h.modTask
  · exact h.modTask

theorem takeOffTip {ref} (h : y.Rises) : (y.takeOffTip env ref).Rises := by
  unfold Yard.takeOffTip
  split
  · split
    · exact h.unexpectAt.takeOffTask
    · exact h
  · split
    · split
      · exact h.unexpectAt.dropBacklog
      · exact h
    · exact h

theorem takeOffRelocate {ref} (h : y.Rises) : (y.takeOffRelocate env ref).Rises := by
  unfold Yard.takeOffRelocate
  split
  · split
    · exact h.takeOffTask
    · exact h
  · exact h.dropBacklog

theorem reroute {cause former ref} (h : y.Rises) : (y.reroute env cause former ref).2.Rises := by
  unfold Yard.reroute
  simp only
  split
  · rename_i hr; exact (h.takeOffTip.route hr).giveMove.note
  · exact h.takeOffTip.bindHold.note

theorem withdrawRelease {ref} (h : y.Rises) : (y.withdrawRelease env ref).Rises := by
  unfold Yard.withdrawRelease
  split
  · split
    · exact h.leavePool
    · exact h
  · exact h

theorem liftEntry {d pos ref} (h : y.Rises) : (y.liftEntry env d pos ref).Rises := h.withdrawRelease.pullEntry

theorem replaceOne {cause d pos tier ref} (h : y.Rises) : (y.replaceOne env cause d pos tier ref).2.Rises := by
  unfold Yard.replaceOne
  split
  · rename_i hz; exact (h.tryPlace hz).note
  · exact h.reroute

theorem replaceAll {cause d pos} :
    ∀ {refs : List Nat} {tier : Nat} {y : Yard}, y.Rises → (replaceAll env cause d pos tier refs y).2.Rises
  | [], _, _, h => h
  | _ :: rest, _, _, h => replaceAll (refs := rest) h.replaceOne

theorem removeEntry {cause ref} (h : y.Rises) : (y.removeEntry env cause ref).2.Rises := by
  unfold Yard.removeEntry
  split
  · exact foldl_keeps evaluate (replaceAll (foldl_keeps liftEntry h.withdrawRelease).pullEntry).evaluate
  · exact h

theorem rerouteTold {cause former ref} (h : y.Rises) : (y.rerouteTold env cause former ref).2.Rises := by
  unfold Yard.rerouteTold
  simp only
  split
  · exact h.reroute.evaluate
  · exact h.reroute

theorem goMissing {cause former ref} (h : y.Rises) : (y.goMissing env cause former ref).Rises := h.modPallet.note

/-! ### Issue, lift, return and expiry -/

theorem issueTask {m id} (h : y.Rises) : (y.issueTask env m id).Rises := by
  unfold Yard.issueTask
  split
  · exact h
  · exact foldl_keeps modPallet h.dequeue.modTask.withIssued.setMover

theorem tipLift {l ref} (h : y.Rises) : (y.tipLift env l ref).Rises := by
  unfold Yard.tipLift
  simp only
  split
  · exact h.laneArrive.modPallet.askTask
  · split
    · exact h.laneArrive.modPallet.evaluate
    · exact h.laneArrive.modPallet

theorem loadLift {src d ref} (h : y.Rises) : (y.loadLift env src d ref).Rises := h.leaveLoc.loadEntry.evaluate

theorem relocateLift {src dst ref} (h : y.Rises) : (y.relocateLift src dst ref).Rises := h.leaveLoc.modPallet

theorem liftDone {id t ref} (h : y.Rises) : (y.liftDone env id t ref).Rises := by
  unfold Yard.liftDone
  simp only
  split
  · split
    · exact h.modTask.tipLift
    · exact h.modTask
  · split
    · exact h.modTask.loadLift
    · exact h.modTask
  · split
    · exact h.modTask.loadLift
    · exact h.modTask
  · exact h.modTask.relocateLift
  · exact h.modTask

theorem recordLifts {id t n} (h : y.Rises) : (y.recordLifts env id t n).Rises := by
  unfold Yard.recordLifts
  split
  · exact h.modTask
  · exact foldl_keeps liftDone h

theorem toldEnded {t} (h : y.Rises) : (y.toldEnded env t).Rises := by
  unfold Yard.toldEnded
  split
  · exact h.stopTest
  · exact h

theorem returnPallet {id t ref} (h : y.Rises) : (y.returnPallet env id t ref).Rises := by
  unfold Yard.returnPallet
  simp only
  split
  · exact h.modPallet.unexpectAt.takeOffTask.bindHold
  · exact h.modPallet

theorem loadReturned {id d ref} (h : y.Rises) : (y.loadReturned env id d ref).Rises := by
  unfold Yard.loadReturned
  split
  · exact h
  · split
    case h_1 =>
      simp only
      split
      · exact h
      · exact h.dequeue.modTask.enqueue
    case h_2 => exact h.leavePool.shiftStatus.evaluate
    case h_3 => exact h.leavePool.shiftStatus.evaluate
    case h_4 => exact h.leavePool.removeEntry.rerouteTold
    all_goals exact h

theorem returnTask {id level mark} (h : y.Rises) : (y.returnTask env id level mark).Rises := by
  unfold Yard.returnTask
  split
  · exact h
  · simp only
    split
    · exact (foldl_keeps returnPallet h.dequeue.modTask.withIssued.enqueue).loadReturned
    · exact foldl_keeps returnPallet h.dequeue.modTask.withIssued.enqueue

theorem expireTask {id} (h : y.Rises) : (y.expireTask env id).Rises := by
  unfold Yard.expireTask
  split
  · exact h
  · exact h.freeMover.returnTask.note

theorem expireWatched {id} (h : y.Rises) : (y.expireWatched env id).Rises := h.expireTask.watch

end Yard.Rises
end Sys2Proof.Machine

namespace Sys2Proof.Machine

namespace Yard.Rises

variable {y z : Yard} {env : Env}

/-! ### Calls, doors and changeovers -/

theorem takeDoor {d n} (h : y.Rises) : (y.takeDoor env d n).Rises := h.setDoor.withWaiting.modDep.depNote.evaluate

theorem call {d} (h : y.Rises) : (y.call env d).Rises := by
  unfold Yard.call
  split
  · exact h
  · simp only
    split
    · exact h.modDep.takeDoor
    · exact h.modDep.withWaiting.modDep.depNote

theorem handOver {n} (h : y.Rises) : (y.handOver env n).Rises := by
  unfold Yard.handOver
  split
  · exact h.takeDoor
  · exact h

theorem endChangeover {n} (h : y.Rises) : (y.endChangeover env n).Rises := by
  unfold Yard.endChangeover
  simp only
  split
  · exact h.setDoor
  · exact h.setDoor.handOver

theorem releaseDoor {n} (h : y.Rises) : (y.releaseDoor env n).Rises := by
  unfold Yard.releaseDoor
  simp only
  split
  · exact h.setDoor.handOver
  · exact h.setDoor

theorem waveRelease (h : y.Rises) : (y.waveRelease env).Rises := foldl_keeps releaseDoor h

theorem giveUpDoor {d} (h : y.Rises) : (y.giveUpDoor env d).Rises := by
  unfold Yard.giveUpDoor
  split
  · exact h
  · exact h.setDoor.modDep

theorem endIfDue {n} (h : y.Rises) : (y.endIfDue env n).Rises := by
  unfold Yard.endIfDue
  split
  · exact h.endChangeover
  · exact h

/-! ### Cut-off and closing -/

theorem rerouteAll {d} : ∀ {refs : List Nat} {y : Yard}, y.Rises → (rerouteAll env d refs y).2.Rises
  | [], _, h => h
  | _ :: rest, _, h => rerouteAll (refs := rest) h.rerouteTold

theorem cutOff {d} (h : y.Rises) : (y.cutOff env d).2.Rises := by
  unfold Yard.cutOff
  exact (rerouteAll (foldl_keeps (fun hz => hz.removeEntry) h.withWaiting.modDep)).modDep.depNote

theorem withdrawEntry {d ref} (h : y.Rises) : (y.withdrawEntry env d ref).Rises := by
  unfold Yard.withdrawEntry
  simp only
  split
  · split
    · exact h.freeMover.leavePool.leaveLoc.removeEntry.goMissing
    · exact h.leaveLoc.removeEntry.goMissing
  · exact h.leaveLoc.removeEntry.goMissing

theorem clearDeck {d} (h : y.Rises) : (y.clearDeck d).Rises := (foldl_keeps freePallet h).setDeck

theorem close {d} (h : y.Rises) : (y.close env d).2.Rises := by
  unfold Yard.close
  have closed {missing : List Nat} {g} {w : Yard} (hw : w.Rises) :
      (((missing.foldl (fun z ref => z.withdrawEntry env d ref) w).clearDeck d).modDep d g).Rises :=
    (foldl_keeps withdrawEntry hw).clearDeck.modDep
  exact note (ite (closed (ite h h.cutOff)).giveUpDoor (closed (ite h h.cutOff)))

/-! ### Timed events -/

theorem raiseQueued {d} (h : y.Rises) : (y.raiseQueued d).Rises := foldl_keeps (fun hz => hz.dequeue.modTask.enqueue) h

theorem marginEvent {d} (h : y.Rises) : (y.marginEvent d).Rises := h.modDep.raiseQueued

theorem callEvent {d} (h : y.Rises) : (y.callEvent env d).Rises := by
  unfold Yard.callEvent
  split
  · exact h.call
  · exact h.modDep

theorem cutEvent {d} (h : y.Rises) : (y.cutEvent env d).Rises := by
  unfold Yard.cutEvent
  split
  · exact h.cutOff
  · exact h.modDep

theorem takeEvent {d ev} (h : y.Rises) : (y.takeEvent env d ev).Rises := by
  cases ev with
  | call => exact h.callEvent
  | margin => exact h.marginEvent
  | cut => exact h.cutEvent.watch

theorem takeDue {d} : ∀ {n : Nat} {y : Yard}, y.Rises → (y.takeDue env d n).Rises
  | 0, _, h => h
  | n + 1, y, h => by
    unfold Yard.takeDue
    split
    · exact takeDue h.takeEvent
    · exact h

theorem examine (h : y.Rises) : (y.examine env).Rises := foldl_keeps takeDue h

theorem endCutOff (h : y.Rises) : (y.endCutOff env).Rises := by
  refine foldl_keeps (fun {z d} hz => ?_) h
  split
  · exact hz.cutOff.watch
  · exact hz

/-! ### The floor's part of an applied plan entry -/

theorem sizeDeck {d} (h : y.Rises) : (y.sizeDeck env d).Rises := h.setDeck

theorem applyEntry {old e} (h : y.Rises) : (y.applyEntry old env e).Rises := by
  cases e with
  | night => exact h
  | profile => exact foldl_keeps sizeDeck h
  | door =>
    unfold Yard.applyEntry
    simp only
    split
    · exact h
    · split
      · exact h.setDoor.handOver
      · exact h.setDoor
  | lane => exact h.setLane
  | departure n w =>
    cases w with
    | withdraw =>
      exact { h with departures := Tab.wf_erase _ _ h.departures, decks := Tab.wf_erase _ _ h.decks }
    | entry e =>
      simp only [Yard.applyEntry]
      split
      · exact sizeDeck { h with departures := Tab.wf_put _ _ _ h.departures }
      · split
        · exact h
        · exact h.sizeDeck
  | route => exact h

/-! ### Opening and closing the night -/

/-- R160 step 3: the fresh departure records stand under the plan's own numbers. -/
theorem ready (h : y.Rises) (hp : env.plan.departures.wf = true) : (y.ready env).Rises := by
  have fresh : (⟨env.plan.departures.keys.map fun d => (d, Departure.fresh .planned)⟩ : Tab Departure).wf = true := by
    have hm := Tab.wf_map env.plan.departures (fun _ => Departure.fresh .planned) hp
    simpa [Tab.keys, Function.comp_def] using hm
  exact foldl_keeps setDoor (foldl_keeps sizeDeck
    { h with departures := fresh, tips := Tab.wf_empty, movers := Tab.wf_empty })

theorem carryOne {ref} (h : y.Rises) : (y.carryOne env ref).2.Rises := by
  unfold Yard.carryOne
  split
  · exact h
  · rename_i hr
    split
    · exact (h.route hr).removeEntry
    · exact (h.route hr).giveMove.note

theorem carryAll : ∀ {refs : List Nat} {y : Yard}, y.Rises → (carryAll env refs y).2.Rises
  | [], _, h => h
  | _ :: rest, _, h => carryAll (refs := rest) h.carryOne

theorem closeTip {n} (h : y.Rises) : (y.closeTip env n).Rises := by
  unfold Yard.closeTip
  simp only
  split
  · exact h.setDoor.note
  · split
    · exact h.setDoor.note
    · exact h.setDoor

theorem closeAll : ∀ {ds : List Nat} {y : Yard}, y.Rises → (closeAll env ds y).2.Rises
  | [], _, h => h
  | _ :: _, _, h => by
    unfold Machine.closeAll
    split
    · exact closeAll h
    · exact closeAll h.close

theorem clearNight (h : y.Rises) : y.clearNight.Rises := by
  have doorsAndMovers := foldl_keeps (l := (y.doors.keys.foldl (fun z n => z.setDoor n (z.door n).endedQuietly) y).movers.keys)
    (g := fun z m => z.setMover m (z.mover m).sentOff) setMover
    (foldl_keeps (l := y.doors.keys) (g := fun z n => z.setDoor n (z.door n).endedQuietly) setDoor h)
  exact foldl_keeps setLane { doorsAndMovers with tasks := Tab.wf_empty, queues := Tab.wf_empty }

/-- R163 step 6: the records kept stand under their own references. -/
theorem withKeptPallets (h : y.Rises) : Yard.Rises { y with pallets := ⟨y.keptPallets⟩ } :=
  { h with
    pallets := Tab.wf_map _ (fun c : Nat × Pallet => c.2.carried)
      (Tab.wf_filter _ (fun c : Nat × Pallet => !c.2.freedAtClose) h.pallets) }

/-! ### The scan -/

theorem placePiece {sc ref} (h : y.Rises) : (y.placePiece env sc ref).2.Rises := by
  unfold Yard.placePiece
  split
  · exact h.modPallet
  · split
    · exact h.modPallet
    · rename_i hr
      split
      · exact (h.route hr).laneExpect
      · exact h.route hr

theorem placePieces {sc} : ∀ {refs : List Nat} {y : Yard}, y.Rises → (placePieces env sc refs y).2.Rises
  | [], _, h => h
  | _ :: rest, _, h => placePieces (refs := rest) h.placePiece

theorem createGroups {sc} :
    ∀ {gs : List (MoveKey × List Nat)} {y : Yard}, y.Rises → (createGroups sc gs y).2.Rises
  | [], _, h => h
  | _ :: rest, _, h => createGroups (gs := rest) h.addTask

theorem countScans {n k} (h : y.Rises) : (y.countScans n k).Rises := h.setTip

theorem createRecords {sc consignment} :
    ∀ {labels : List Nat} {y : Yard}, y.Rises → (createRecords env sc consignment labels y).2.Rises
  | [], _, h => h
  | _ :: rest, _, h => createRecords (labels := rest) h.setPallet

/-! ### Watch limits and failures -/

theorem setLimits {plan l high low} (h : y.Rises) : (y.setLimits plan l high low).Rises := h.setLane

theorem endTask {id t late} (h : y.Rises) : (y.endTask env id t late).Rises := by
  unfold Yard.endTask
  simp only
  split
  · exact h.freeMover.leavePool
  · exact h.freeMover.leavePool.toldEnded

theorem endIssue {id t late} (h : y.Rises) : (y.endIssue env id t late).Rises := by
  unfold Yard.endIssue
  split
  · exact h
  · exact h.freeMover.modTask.toldEnded

theorem notFoundPallet {t ref} (h : y.Rises) : (y.notFoundPallet env t ref).Rises := by
  unfold Yard.notFoundPallet
  simp only
  split
  · exact h.removeEntry.takeOffTip.takeOffRelocate.unexpectAt.goMissing
  · exact h.removeEntry.takeOffTip.takeOffRelocate.leaveLoc.goMissing

theorem failNotFound {id t} (h : y.Rises) : (y.failNotFound env id t).Rises := foldl_keeps notFoundPallet h.leavePool

theorem damagedPallet {t ref} (h : y.Rises) : (y.damagedPallet env t ref).Rises := by
  unfold Yard.damagedPallet
  simp only
  split
  · exact h.removeEntry.unexpectAt.modPallet.askTask.note
  · exact h.removeEntry.modPallet.askTask.note

theorem settleDamaged {id} (h : y.Rises) : (y.settleDamaged env id).Rises := by
  unfold Yard.settleDamaged
  split
  · exact h
  · split
    · exact h
    · split
      · exact h.leavePool
      · exact h.returnTask

theorem failTask {id t reason} (h : y.Rises) : (y.failTask env id t reason).2.Rises := by
  unfold Yard.failTask
  split
  · exact h.returnTask
  · exact h.failNotFound
  · split
    · exact h.modTask.damagedPallet.settleDamaged
    · exact h.failNotFound

end Yard.Rises

/-! ## Canonical tables: plan store and works of a minute -/

/-- Every table of the active copy has its canonical form. -/
structure ActivePlan.Rises (p : ActivePlan) : Prop where
  profiles : p.profiles.wf = true
  doors : p.doors.wf = true
  lanes : p.lanes.wf = true
  departures : p.departures.wf = true
  routes : p.routes.wf = true

theorem ActivePlan.rises_iff {p : ActivePlan} : p.Rises ↔ p.tablesRise = true := by
  simp only [ActivePlan.tablesRise, Bool.and_eq_true, and_assoc]
  exact ⟨fun ⟨h1, h2, h3, h4, h5⟩ => ⟨h1, h2, h3, h4, h5⟩, fun ⟨h1, h2, h3, h4, h5⟩ => ⟨h1, h2, h3, h4, h5⟩⟩

theorem ActivePlan.Rises.apply {p : ActivePlan} {e : PlanEntry} (h : p.Rises) : (p.apply e).Rises := by
  cases e with
  | night => exact { h with }
  | profile => exact { h with profiles := Tab.wf_put _ _ _ h.profiles }
  | door => exact { h with doors := Tab.wf_put _ _ _ h.doors }
  | lane => exact { h with lanes := Tab.wf_put _ _ _ h.lanes }
  | departure n w =>
    cases w with
    | withdraw => exact { h with departures := Tab.wf_erase _ _ h.departures }
    | entry => exact { h with departures := Tab.wf_put _ _ _ h.departures }
  | route n l =>
    refine { h with routes := ?_ }
    show (if l.isEmpty then p.routes.erase n else p.routes.put n l).wf = true
    split
    · exact Tab.wf_erase _ _ h.routes
    · exact Tab.wf_put _ _ _ h.routes

/-- Every table of the shadow copy has its canonical form. -/
structure Shadow.Rises (p : Shadow) : Prop where
  profiles : p.profiles.wf = true
  doors : p.doors.wf = true
  lanes : p.lanes.wf = true
  departures : p.departures.wf = true
  routes : p.routes.wf = true

theorem Shadow.rises_iff {p : Shadow} : p.Rises ↔ p.tablesRise = true := by
  simp only [Shadow.tablesRise, Bool.and_eq_true, and_assoc]
  exact ⟨fun ⟨h1, h2, h3, h4, h5⟩ => ⟨h1, h2, h3, h4, h5⟩, fun ⟨h1, h2, h3, h4, h5⟩ => ⟨h1, h2, h3, h4, h5⟩⟩

theorem Shadow.rises_empty : Shadow.empty.Rises := Shadow.rises_iff.mpr rfl

theorem Shadow.Rises.write {p : Shadow} {e : PlanEntry} (h : p.Rises) : (p.write e).Rises := by
  cases e with
  | night => exact { h with }
  | profile => exact { h with profiles := Tab.wf_put _ _ _ h.profiles }
  | door => exact { h with doors := Tab.wf_put _ _ _ h.doors }
  | lane => exact { h with lanes := Tab.wf_put _ _ _ h.lanes }
  | departure => exact { h with departures := Tab.wf_put _ _ _ h.departures }
  | route => exact { h with routes := Tab.wf_put _ _ _ h.routes }

/-- Every table of a run has its canonical form. -/
structure Run.Rises (r : Run) : Prop where
  active : r.plan.active.Rises
  shadow : r.plan.shadow.Rises
  yard : r.yard.Rises

namespace Run.Rises

variable {r : Run}

theorem withClock {c} (h : r.Rises) : Run.Rises { r with clock := c } := { h with }

theorem withWork {w} (h : r.Rises) : Run.Rises { r with work := w } := { h with }

theorem onYard {g} (h : r.Rises) (hg : ∀ {env : Env} {y : Yard}, y.Rises → (g env y).Rises) : (r.onYard g).Rises :=
  { h with yard := hg h.yard }

theorem draw {n} (h : r.Rises) : (r.draw n).2.Rises := by
  unfold Run.draw
  split
  · exact h
  · exact { h with }

theorem takeEntry {cause e} (h : r.Rises) : (r.takeEntry cause e).Rises := by
  unfold Run.takeEntry
  simp only
  split
  · exact { h with yard := h.yard.note }
  · exact { h with active := h.active.apply, yard := h.yard.note.applyEntry }

theorem takeEntries {cause} : ∀ {es : List PlanEntry} {r : Run}, r.Rises → (takeEntries cause es r).2.Rises
  | [], _, h => h
  | _ :: es, _, h => takeEntries (es := es) h.takeEntry

theorem updatePoint {cause} (h : r.Rises) : (r.updatePoint cause).2.Rises := by
  have taken := takeEntries (cause := cause) (es := r.plan.shadow.entries)
    (r := { r with plan := { r.plan with shadow := .empty } }) { h with shadow := Shadow.rises_empty }
  unfold Run.updatePoint
  simp only
  split
  · exact taken.onYard Yard.Rises.examine
  · exact taken

theorem boundaryUpdate (h : r.Rises) : r.boundaryUpdate.Rises := by
  unfold Run.boundaryUpdate
  split
  · exact h.updatePoint
  · exact h

theorem boundaryRelease (h : r.Rises) : r.boundaryRelease.Rises := h.onYard Yard.Rises.waveRelease

theorem takeBoundary {m} (h : r.Rises) : (r.takeBoundary m).Rises := by
  have noted {c n} : ({ r with clock := c }.onYard fun env y => y.note env c.wave n).Rises :=
    h.withClock.onYard Yard.Rises.note
  unfold Run.takeBoundary
  simp only
  split
  · split
    · exact noted.draw.boundaryUpdate.boundaryRelease
    · exact noted.draw.boundaryRelease.boundaryUpdate
  · exact noted.boundaryUpdate.boundaryRelease

theorem testBoundary {since} (h : r.Rises) : (r.testBoundary since).Rises := by
  unfold Run.testBoundary
  split
  · exact h.takeBoundary
  · exact h

theorem reachEnd (h : r.Rises) : r.reachEnd.Rises := h.withClock.onYard Yard.Rises.endCutOff

theorem endChangeovers : ∀ {n : Nat} {r : Run}, r.Rises → (r.endChangeovers n).Rises
  | 0, _, h => h
  | n + 1, r, h => by
    unfold Run.endChangeovers
    split
    · exact h
    · exact endChangeovers (h.draw.onYard Yard.Rises.endChangeover)

theorem doItem {i} (h : r.Rises) : (r.doItem i).Rises := by
  cases i <;> simp only [Run.doItem]
  case departures => exact h.onYard Yard.Rises.examine
  case expiry => exact h.onYard (foldl_keeps Yard.Rises.expireWatched)
  case doors => exact h.endChangeovers
  case wave => exact h.testBoundary
  case syncUpdate => exact h.updatePoint
  case endOfClock => exact h.reachEnd

theorem settleItems : ∀ {n : Nat} {r : Run}, r.Rises → (r.settleItems n).Rises
  | 0, _, h => h.withWork
  | n + 1, r, h => by
    unfold Run.settleItems
    split
    · exact h.withWork
    · exact settleItems h.draw.doItem.withWork

theorem settle (h : r.Rises) : r.settle.Rises := by
  unfold Run.settle
  simp only
  split
  · exact h.doItem.withWork.settleItems
  · exact h.settleItems

theorem tick (h : r.Rises) : r.tick.Rises := h.withClock.withWork

theorem second (h : r.Rises) : r.second.Rises := by
  unfold Run.second
  split
  · exact h.withClock
  · exact h.tick

theorem afterEvent {taken rest} (h : r.Rises) : (r.afterEvent taken rest).Rises := h.withWork

theorem eventStep {d ev} (h : r.Rises) : (r.eventStep d ev).Rises := by
  unfold Run.eventStep
  split
  · exact (h.onYard Yard.Rises.takeEvent).afterEvent
  · exact h

theorem expiryStep {id} (h : r.Rises) : (r.expiryStep id).Rises := by
  unfold Run.expiryStep
  split
  · exact h
  · split
    · exact (h.onYard Yard.Rises.expireWatched).afterEvent
    · exact h

theorem doorStep {n} (h : r.Rises) : (r.doorStep n).Rises := by
  unfold Run.doorStep
  split
  · exact (h.onYard Yard.Rises.endChangeover).afterEvent
  · exact h

theorem waveStep (h : r.Rises) : r.waveStep.Rises := by
  unfold Run.waveStep
  split
  · exact h.testBoundary.afterEvent
  · exact h

theorem endStep (h : r.Rises) : r.endStep.Rises := by
  unfold Run.endStep
  split
  · exact h.reachEnd.afterEvent
  · exact h

theorem write {e} (h : r.Rises) : (r.write e).2.Rises := by
  have written : Run.Rises { r with plan := { r.plan with shadow := r.plan.shadow.write e } } :=
    { h with shadow := h.shadow.write }
  unfold Run.write
  simp only
  split
  · exact written.updatePoint
  · exact written

theorem sync {m sec} (h : r.Rises) : (r.sync m sec).Rises := by
  unfold Run.sync
  exact h.withClock.withWork.settle

end Run.Rises

/-! ## Canonical tables: answers of requests -/

/-- What an answer leaves, where the request is taken, has property `P`. -/
def Answer.Gives {σ : Type} (P : σ → Prop) : Answer σ → Prop
  | .refused _ => True
  | .done _ after => P after

namespace Answer.Gives

variable {σ : Type} {P : σ → Prop} {a : Answer σ} {body : List Byte} {env : Env}

theorem refused {c} : (Answer.refused c : Answer σ).Gives P := trivial

theorem done {result s} (h : P s) : (Answer.done result s).Gives P := h

theorem orRefused {p : Prop} [Decidable p] {c} (h : a.Gives P) : (if p then .refused c else a).Gives P := by
  split
  · exact refused
  · exact h

theorem needsNight (h : a.Gives P) : (needsNight env a).Gives P := by
  unfold Machine.needsNight
  split
  · exact h
  · exact refused

theorem numbered {lo hi k} (h : ∀ n, (k n : Answer σ).Gives P) : (numbered body lo hi k).Gives P :=
  .orRefused (.orRefused (h _))

theorem onDeparture {night} {k : Nat → DepartureEntry → Answer Yard} {P : Yard → Prop} (h : ∀ d e, (k d e).Gives P) :
    (onDeparture body night env k).Gives P := by
  refine .numbered fun d => .orRefused ?_
  split
  · exact refused
  · exact h d _

theorem onMover {k : Nat → Answer Yard} {P : Yard → Prop} (h : ∀ m, (k m).Gives P) : (onMover body env k).Gives P :=
  .numbered fun m => (h m).needsNight

theorem labelled {y : Yard} {k : Nat → Answer Yard} {P : Yard → Prop} (h : ∀ ref, (k ref).Gives P) :
    (labelled body y k).Gives P := by
  unfold Machine.labelled
  split
  · exact refused
  · exact h _

theorem onReport {length fieldsOk} {y : Yard} {k : Nat → Nat → Task → Bool → Answer Yard} {P : Yard → Prop}
    (h : ∀ id m t late, (k id m t late).Gives P) : (onReport body length fieldsOk env y k).Gives P := by
  refine .orRefused (.orRefused (.needsNight ?_))
  split
  · exact refused
  · split
    · exact refused
    · exact h ..
    · exact h ..

end Answer.Gives

namespace Yard.Rises

variable {y : Yard} {env : Env} {body : List Byte}

/-! ### Departure control and door control -/

theorem answerCallNow (h : y.Rises) : (answerCallNow body env y).Gives Yard.Rises :=
  .onDeparture fun _ _ => .orRefused (.done h.call)

theorem answerCutNow (h : y.Rises) : (answerCutNow body env y).Gives Yard.Rises :=
  .onDeparture fun _ _ => .orRefused (.done h.cutOff.watch)

theorem answerHoldLoad (h : y.Rises) : (answerHoldLoad body env y).Gives Yard.Rises :=
  .onDeparture fun _ _ => .orRefused (.done h.modDep)

theorem answerFreeLoad (h : y.Rises) : (answerFreeLoad body env y).Gives Yard.Rises := by
  refine .onDeparture fun d _ => .orRefused (.done ?_)
  split
  · exact h.modDep.evaluate
  · exact h.modDep

theorem answerAbortLoad (h : y.Rises) : (answerAbortLoad body env y).Gives Yard.Rises :=
  .onDeparture fun _ _ => .orRefused (.done
    (foldl_keeps (fun hz => hz.withdrawRelease.shiftStatus) h.modDep).modDep.stopTest)

theorem answerResumeLoad (h : y.Rises) : (answerResumeLoad body env y).Gives Yard.Rises :=
  .onDeparture fun _ _ => .orRefused (.done h.modDep.evaluate)

theorem answerDepart (h : y.Rises) : (answerDepart body env y).Gives Yard.Rises := by
  refine .onDeparture fun d e => ?_
  have closed : (if (y.departure d).doorTaken then ((y.close env d).2.watch env y.toFloor).endIfDue env e.door
      else (y.close env d).2.watch env y.toFloor).Rises := by
    split
    · exact h.close.watch.endIfDue
    · exact h.close.watch
  split
  iterate 3 exact .refused
  all_goals exact .done closed

theorem answerGetDeparture (h : y.Rises) : (answerGetDeparture body env y).Gives Yard.Rises :=
  .onDeparture fun _ _ => .done h

theorem answerDoorFault (h : y.Rises) : (answerDoorFault body env y).Gives Yard.Rises := .numbered fun _ => .done h.setDoor

theorem answerDoorClear (h : y.Rises) : (answerDoorClear body env y).Gives Yard.Rises := .numbered fun _ => .done h.setDoor

theorem answerDoorResume (h : y.Rises) : (answerDoorResume body env y).Gives Yard.Rises :=
  .numbered fun _ => .orRefused (.done h.releaseDoor)

theorem answerGetDoor (h : y.Rises) : (answerGetDoor body env y).Gives Yard.Rises := .numbered fun _ => .done h

/-! ### Intake -/

theorem answerTipOpen (h : y.Rises) : (answerTipOpen body env y).Gives Yard.Rises :=
  .orRefused (.orRefused (.orRefused (.orRefused (.done h.setDoor.setTip))))

theorem answerTipClose (h : y.Rises) : (answerTipClose body env y).Gives Yard.Rises :=
  .numbered fun _ => .needsNight (.orRefused (.done h.closeTip))

theorem takeScan {sc flag refs before} (h : y.Rises) : (y.takeScan env sc flag refs before).Gives Yard.Rises :=
  .orRefused (.done (foldl_keeps evaluate h.placePieces.createGroups.countScans).watch)

theorem scanFresh {sc} (h : y.Rises) : (y.scanFresh env sc).Gives Yard.Rises := .orRefused h.createRecords.takeScan

theorem rescan {sc ref} (h : y.Rises) : (y.rescan env sc ref).Gives Yard.Rises := by
  unfold Yard.rescan
  simp only
  split
  · exact h.setPallet.takeScan
  · exact .done h

theorem answerPalletIn (h : y.Rises) : (answerPalletIn body env y).Gives Yard.Rises := by
  refine .orRefused ?_
  split
  · exact .refused
  · refine .orRefused (.orRefused ?_)
    split
    · split
      · exact h.rescan
      · exact h.scanFresh
    · exact .orRefused h.scanFresh

theorem answerBumpPallet (h : y.Rises) : (answerBumpPallet body env y).Gives Yard.Rises :=
  .orRefused (.needsNight (.labelled fun _ => .orRefused (.done h.removeEntry.takeOffTip.bindHold.watch)))

theorem answerReleasePallet (h : y.Rises) : (answerReleasePallet body env y).Gives Yard.Rises :=
  .orRefused (.labelled fun _ => .orRefused (.done h.takeOffRelocate.leaveLoc.freePallet.watch))

theorem answerGetPallet (h : y.Rises) : (answerGetPallet body env y).Gives Yard.Rises :=
  .orRefused (.labelled fun _ => .done h)

/-! ### Lanes -/

theorem answerWatchLanes (h : y.Rises) : (answerWatchLanes body env y).Gives Yard.Rises := by
  refine .orRefused (.orRefused ?_)
  split
  · exact .done (foldl_keeps setLimits h)
  · split
    · exact .done h.setLimits
    · exact .refused

theorem answerAckAlert (h : y.Rises) : (answerAckAlert body env y).Gives Yard.Rises := by
  refine .numbered fun l => ?_
  split
  · exact .refused
  · exact .done h.setLane

theorem answerGetLane (h : y.Rises) : (answerGetLane body env y).Gives Yard.Rises := by
  refine .numbered fun l => ?_
  split
  · exact .done h
  · exact .refused

/-! ### Movers and tasks -/

theorem answerMoverOn (h : y.Rises) : (answerMoverOn body env y).Gives Yard.Rises := by
  refine .onMover fun m => ?_
  split
  · exact .refused
  · exact .refused
  · exact .done h.setMover

theorem answerMoverOff (h : y.Rises) : (answerMoverOff body env y).Gives Yard.Rises := by
  refine .onMover fun m => ?_
  split
  · exact .refused
  · exact .done h.setMover
  · exact .done h.freeMover.returnTask.watch

theorem answerMoverReady (h : y.Rises) : (answerMoverReady body env y).Gives Yard.Rises := by
  refine .onMover fun m => ?_
  split
  · exact .refused
  · exact .refused
  · split
    · exact .done h
    · split
      · exact .done h
      · exact .done h.issueTask

theorem answerPostTask (h : y.Rises) : (answerPostTask body env y).Gives Yard.Rises := by
  refine .orRefused ?_
  split
  · refine .orRefused (.needsNight ?_)
    split
    · exact .refused
    · rename_i hr; exact .done (h.createTask hr)
  · exact .refused

theorem answerDispatchHold (h : y.Rises) : (answerDispatchHold body env y).Gives Yard.Rises := by
  refine .orRefused ?_
  split
  · exact .refused
  · exact .done { h with }

theorem answerGetTask (h : y.Rises) : (answerGetTask body env y).Gives Yard.Rises := by
  refine .orRefused ?_
  split
  · exact .refused
  · exact .done h

theorem answerTaskDone (h : y.Rises) : (answerTaskDone body env y).Gives Yard.Rises := by
  refine .onReport fun id _ t late => .orRefused (.done (watch ?_))
  split
  · exact h.recordLifts.endTask
  · exact h.recordLifts

theorem answerTaskFail (h : y.Rises) : (answerTaskFail body env y).Gives Yard.Rises := by
  unfold Machine.answerTaskFail
  exact .onReport fun _ _ _ _ => .done h.endIssue.failTask.watch

end Yard.Rises

namespace Run.Rises

variable {r : Run} {body : List Byte}

/-! ### Plan store and night -/

theorem answerSet {lengthOk entry} (h : r.Rises) : (answerSet lengthOk entry r).Gives Run.Rises := by
  refine .orRefused ?_
  split
  · exact .refused
  · exact .done h.write

theorem answerSetMethod (h : r.Rises) : (answerSetMethod body r).Gives Run.Rises := by
  refine .orRefused ?_
  split
  · exact .refused
  · exact .done { h with }

theorem answerActivate (h : r.Rises) : (answerActivate body r).Gives Run.Rises := .orRefused (.done h.updatePoint)

theorem answerGetPlan (h : r.Rises) : (answerGetPlan body r).Gives Run.Rises := by
  refine .orRefused ?_
  split
  · exact .refused
  · split
    · split
      · exact .refused
      · exact .done h
    · exact .refused

theorem answerNightOpen (h : r.Rises) : (answerNightOpen body r).Gives Run.Rises :=
  have opened := h.updatePoint (cause := .nightOpen)
  .orRefused (.orRefused (.done
    { opened with yard := (opened.yard.ready opened.active.departures).carryAll.watch.examine }))

theorem answerNightClose (h : r.Rises) : (answerNightClose body r).Gives Run.Rises :=
  .orRefused (.orRefused (.done
    { h with yard := (foldl_keeps Yard.Rises.closeTip h.yard).closeAll.clearNight.withKeptPallets }))

theorem answerClockSync (h : r.Rises) : (answerClockSync body r).Gives Run.Rises :=
  .orRefused (.orRefused (.orRefused (.orRefused (.orRefused (.done h.sync)))))

end Run.Rises

/-! ## Canonical tables: the whole state -/

/-- Every table of the state has its canonical form. -/
def State.Rises (s : State) : Prop := s.toRun.Rises

theorem State.rises_iff {s : State} : s.Rises ↔ s.tablesRise = true := by
  simp only [State.tablesRise, Bool.and_eq_true, and_assoc, ← ActivePlan.rises_iff, ← Shadow.rises_iff]
  exact ⟨fun h => ⟨h.active, h.shadow, Yard.rises_iff.mp h.yard⟩, fun ⟨ha, hs, hf⟩ => ⟨ha, hs, Yard.rises_iff.mpr hf⟩⟩

theorem State.rises_fullReset {s : State} {atSpace : Bool} : (s.fullReset atSpace).Rises := State.rises_iff.mpr rfl

namespace State.Rises

variable {s : State}

theorem withLink {l} (h : s.Rises) : State.Rises { s with link := l } := h

theorem absorb {r : Run} (h : r.Rises) : (s.absorb r).Rises := { h with yard := { h.yard with } }

theorem onRun {g} (hg : ∀ {r : Run}, r.Rises → (g r).Rises) (h : s.Rises) : (s.onRun g).Rises := absorb (hg h)

theorem settled (h : s.Rises) : s.settled.Rises := by
  unfold State.settled
  split
  · exact h
  · exact h.onRun Run.Rises.settle

theorem timed {g} (hg : ∀ {r : Run}, r.Rises → (g r).Rises) (h : s.Rises) : (s.timed g).Rises := by
  unfold State.timed
  simp only
  split
  · exact h.settled.onRun hg
  · exact h.settled

theorem taken {f u} (h : s.Rises) (hu : s.taken f = some u) : u.Rises := by
  obtain ⟨l, -, rfl⟩ := State.taken_cases hu
  exact settled (s := { s with link := l }) h

/-- A request keeps the tables where its answer does, R171. -/
theorem takeRequest {kind tag body answer} (ha : ∀ {u : State}, u.Rises → (answer u).Gives State.Rises) (h : s.Rises) :
    (takeRequest kind tag body answer s).Rises := by
  cases hu : s.taken { kind := kind, tag := tag, body := body } with
  | none => rwa [takeRequest_none hu]
  | some u =>
    have hr := h.taken hu
    have hgives := ha hr
    cases hans : answer u with
    | refused c => rw [takeRequest_refused hu hans]; exact hr.withLink
    | done result after => rw [takeRequest_done hu hans]; rw [hans] at hgives; exact hgives

theorem asRun {g} (hg : ∀ {r : Run}, r.Rises → (g r).Gives Run.Rises) (h : s.Rises) : (asRun g s).Gives State.Rises := by
  have hgives := hg h
  unfold Machine.asRun
  split
  · trivial
  · rename_i ha; rw [ha] at hgives; exact absorb hgives

theorem asYard {g} (hg : ∀ {env : Env} {y : Yard}, y.Rises → (g env y).Gives Yard.Rises) (h : s.Rises) :
    (asYard g s).Gives State.Rises := by
  refine asRun (fun {r} hr => ?_) h
  have hgives := hg (env := r.env) hr.yard
  split
  · trivial
  · rename_i ha; rw [ha] at hgives; exact { hr with yard := hgives }

/-- A request of the floor's blocks. -/
theorem yardRequest {kind tag body g} (h : s.Rises)
    (hg : ∀ {env : Env} {y : Yard}, y.Rises → (g env y).Gives Yard.Rises) :
    (Machine.takeRequest kind tag body (Machine.asYard g) s).Rises := h.takeRequest (asYard hg)

/-- A request of clock or plan store. -/
theorem runRequest {kind tag body g} (h : s.Rises) (hg : ∀ {r : Run}, r.Rises → (g r).Gives Run.Rises) :
    (Machine.takeRequest kind tag body (Machine.asRun g) s).Rises := h.takeRequest (asRun hg)

theorem answerStatus {body} (h : s.Rises) : (answerStatus body s).Gives State.Rises :=
  .orRefused (.done h)

theorem answerSetReports {body} (h : s.Rises) : (answerSetReports body s).Gives State.Rises := by
  refine .orRefused ?_
  split
  · exact .done h.withLink
  · trivial

/-- Every command has a next state, and its tables have the canonical form. -/
theorem exec (c : Instr) (h : s.Rises) : ∃ t, exec c s = .next t ∧ t.Rises := by
  cases c with
  | powerOn => exact ⟨_, rfl, rises_fullReset⟩
  | resetPin => exact ⟨_, rfl, rises_fullReset⟩
  | longBreak => exact ⟨_, rfl, rises_fullReset⟩
  | lineBreak => exact ⟨_, rfl, h.withLink⟩
  | stopBitError => exact ⟨_, rfl, h.withLink⟩
  | interCharacterTimeout => exact ⟨_, rfl, h.withLink⟩
  | frameReceived => exact ⟨_, rfl, h.withLink⟩
  | replyStart => exact ⟨_, rfl, h.withLink⟩
  | reportStart => exact ⟨_, rfl, h.withLink⟩
  | characterReceived => exact ⟨_, rfl, h.withLink⟩
  | receiveLineToMark => exact ⟨_, rfl, h.withLink⟩
  | frameSent => exact ⟨_, rfl, h.withLink⟩
  | unknownRequestKind kind tag body =>
    refine ⟨_, rfl, ?_⟩
    split
    · exact h
    · exact h.takeRequest fun _ => .refused
  | status => exact ⟨_, rfl, h.takeRequest answerStatus⟩
  | setReports => exact ⟨_, rfl, h.takeRequest answerSetReports⟩
  | nightOpen => exact ⟨_, rfl, h.runRequest Run.Rises.answerNightOpen⟩
  | nightClose => exact ⟨_, rfl, h.runRequest Run.Rises.answerNightClose⟩
  | clockSync => exact ⟨_, rfl, h.runRequest Run.Rises.answerClockSync⟩
  | setNight => exact ⟨_, rfl, h.runRequest Run.Rises.answerSet⟩
  | setProfile => exact ⟨_, rfl, h.runRequest Run.Rises.answerSet⟩
  | setDoor => exact ⟨_, rfl, h.runRequest Run.Rises.answerSet⟩
  | setLane => exact ⟨_, rfl, h.runRequest Run.Rises.answerSet⟩
  | setDeparture => exact ⟨_, rfl, h.runRequest Run.Rises.answerSet⟩
  | setRoute => exact ⟨_, rfl, h.runRequest Run.Rises.answerSet⟩
  | setMethod => exact ⟨_, rfl, h.runRequest Run.Rises.answerSetMethod⟩
  | activate => exact ⟨_, rfl, h.runRequest Run.Rises.answerActivate⟩
  | getPlan => exact ⟨_, rfl, h.runRequest Run.Rises.answerGetPlan⟩
  | tipOpen => exact ⟨_, rfl, h.yardRequest Yard.Rises.answerTipOpen⟩
  | palletIn => exact ⟨_, rfl, h.yardRequest Yard.Rises.answerPalletIn⟩
  | tipClose => exact ⟨_, rfl, h.yardRequest Yard.Rises.answerTipClose⟩
  | bumpPallet => exact ⟨_, rfl, h.yardRequest Yard.Rises.answerBumpPallet⟩
  | releasePallet => exact ⟨_, rfl, h.yardRequest Yard.Rises.answerReleasePallet⟩
  | getPallet => exact ⟨_, rfl, h.yardRequest Yard.Rises.answerGetPallet⟩
  | moverOn => exact ⟨_, rfl, h.yardRequest Yard.Rises.answerMoverOn⟩
  | moverOff => exact ⟨_, rfl, h.yardRequest Yard.Rises.answerMoverOff⟩
  | moverReady => exact ⟨_, rfl, h.yardRequest Yard.Rises.answerMoverReady⟩
  | taskDone => exact ⟨_, rfl, h.yardRequest Yard.Rises.answerTaskDone⟩
  | taskFail => exact ⟨_, rfl, h.yardRequest Yard.Rises.answerTaskFail⟩
  | postTask => exact ⟨_, rfl, h.yardRequest Yard.Rises.answerPostTask⟩
  | dispatchHold => exact ⟨_, rfl, h.yardRequest Yard.Rises.answerDispatchHold⟩
  | getTask => exact ⟨_, rfl, h.yardRequest Yard.Rises.answerGetTask⟩
  | callNow => exact ⟨_, rfl, h.yardRequest Yard.Rises.answerCallNow⟩
  | cutNow => exact ⟨_, rfl, h.yardRequest Yard.Rises.answerCutNow⟩
  | holdLoad => exact ⟨_, rfl, h.yardRequest Yard.Rises.answerHoldLoad⟩
  | freeLoad => exact ⟨_, rfl, h.yardRequest Yard.Rises.answerFreeLoad⟩
  | abortLoad => exact ⟨_, rfl, h.yardRequest Yard.Rises.answerAbortLoad⟩
  | resumeLoad => exact ⟨_, rfl, h.yardRequest Yard.Rises.answerResumeLoad⟩
  | depart => exact ⟨_, rfl, h.yardRequest Yard.Rises.answerDepart⟩
  | getDeparture => exact ⟨_, rfl, h.yardRequest Yard.Rises.answerGetDeparture⟩
  | doorFault => exact ⟨_, rfl, h.yardRequest Yard.Rises.answerDoorFault⟩
  | doorClear => exact ⟨_, rfl, h.yardRequest Yard.Rises.answerDoorClear⟩
  | doorResume => exact ⟨_, rfl, h.yardRequest Yard.Rises.answerDoorResume⟩
  | getDoor => exact ⟨_, rfl, h.yardRequest Yard.Rises.answerGetDoor⟩
  | watchLanes => exact ⟨_, rfl, h.yardRequest Yard.Rises.answerWatchLanes⟩
  | ackAlert => exact ⟨_, rfl, h.yardRequest Yard.Rises.answerAckAlert⟩
  | getLane => exact ⟨_, rfl, h.yardRequest Yard.Rises.answerGetLane⟩
  | taskExpiry => exact ⟨_, rfl, h.onRun Run.Rises.expiryStep⟩
  | callEvent => exact ⟨_, rfl, h.onRun Run.Rises.eventStep⟩
  | lateMarginEvent => exact ⟨_, rfl, h.onRun Run.Rises.eventStep⟩
  | cutEvent => exact ⟨_, rfl, h.onRun Run.Rises.eventStep⟩
  | changeoverEnd => exact ⟨_, rfl, h.onRun Run.Rises.doorStep⟩
  | waveBoundary => exact ⟨_, rfl, h.onRun Run.Rises.waveStep⟩
  | endReached => exact ⟨_, rfl, h.onRun Run.Rises.endStep⟩
  | minuteTick => exact ⟨_, rfl, h.timed Run.Rises.tick⟩
  | timeBaseSecond => exact ⟨_, rfl, h.timed Run.Rises.second⟩

end State.Rises

/-- Settles O58: the command at the front of the queue keeps the tables' form, and an idle part changes nothing. -/
theorem everyStepKeepsTheTablesRising : Obligations.EveryStepKeepsTheTablesRising := by
  intro s t hs hstep
  rw [← State.rises_iff] at hs ⊢
  unfold step at hstep
  split at hstep
  · cases hstep; exact hs
  · rename_i c rest _
    obtain ⟨t', ht', hr⟩ := State.Rises.exec (s := { s with pending := rest }) c hs
    cases ht'.symm.trans hstep
    exact hr

end Sys2Proof.Machine

namespace Sys2Proof.Machine

/-! ## Load arithmetic: the two checks -/

/-- What the trailer check compares, R13. -/
theorem trailerCheck_iff {pr : Profile} {w m weight row : Nat} :
    trailerCheck pr w m weight row = true ↔
      w + weight ≤ pr.payload ∧ kingpinLoad (m + weight * pr.lever row) ≤ pr.kingpin ∧
      bogieLoad (w + weight) (m + weight * pr.lever row) ≤ pr.bogie := by
  simp only [trailerCheck, Bool.and_eq_true, decide_eq_true_eq, and_assoc]

/-- Settles O31: B' is a difference of naturals here, which meets a limit exactly when the integer difference does. -/
theorem trailerCheckComparesTheThreeLimits : Obligations.TrailerCheckComparesTheThreeLimits := by
  refine ⟨fun pr w m weight row => ?_, fun dk pr pos e weight => ⟨rfl, rfl⟩⟩
  rw [trailerCheck_iff, bogieLoad, kingpinLoad]
  omega

/-- Condition 3 of R11 pallet by pallet: the `i`-th bears all from the next one on and the new weight. -/
theorem bearsAll_iff {w : Nat} {stk : List Load} :
    bearsAll w stk = true ↔
      ∀ (i : Nat) (x : Load), stk[i]? = some x → ((stk.drop (i + 1)).map (·.weight)).sum + w ≤ x.allowance := by
  induction stk with
  | nil => simp [bearsAll]
  | cons e above ih =>
    simp only [bearsAll, Bool.and_eq_true, decide_eq_true_eq, ih]
    constructor
    · rintro ⟨he, habove⟩ (_ | i) x hx
      · cases hx; exact he
      · exact habove i x hx
    · exact fun h => ⟨h 0 e rfl, fun i x hx => h (i + 1) x hx⟩

/-- Settles O32. -/
theorem stackCheckBearsEveryPallet : Obligations.StackCheckBearsEveryPallet := by
  refine ⟨fun pr stk n hne => ?_, fun pr n => by simp⟩
  cases stk with
  | nil => exact absurd rfl hne
  | cons e above => simp only [stackCheck, Bool.and_eq_true, decide_eq_true_eq, bearsAll_iff, and_assoc]

/-- Settles O3: every table is empty, and reads of an unlisted number give the record after reset. -/
theorem resetValuesOfTheBlocks : Obligations.ResetValuesOfTheBlocks := by
  refine ⟨rfl, rfl, rfl, rfl, fun _ => ⟨rfl, rfl, rfl, rfl, rfl⟩, fun _ => ⟨rfl, rfl, rfl, rfl, rfl⟩, fun _ => rfl,
    fun _ => rfl, fun _ => rfl, fun _ => ⟨rfl, rfl, rfl⟩, fun _ => rfl, ?_⟩
  exact ⟨rfl, rfl, rfl, rfl, rfl, rfl, rfl, rfl, rfl, rfl, rfl, rfl, rfl, rfl, rfl, rfl, rfl, rfl, rfl⟩
end Sys2Proof.Machine

namespace Sys2Proof.Machine

/-! ## The placement search -/

theorem DepState.beforeDoor_iff {st : DepState} : st.beforeDoor = true ↔ st = .planned ∨ st = .waitingDoor := by
  cases st <;> simp [DepState.beforeDoor]

theorem DepState.searchable_iff {st : DepState} : st.searchable = true ↔ st ≠ .cut ∧ st ≠ .closed := by
  cases st <;> simp [DepState.searchable]

/-- The candidate positions, R16. -/
theorem mem_candidates_iff {e : DepartureEntry} {rows : Nat} {st : DepState} {dk : Deck} {lo hi pos : Nat} :
    pos ∈ candidates e rows st dk lo hi ↔
      lo ≤ pos ∧ pos ≤ hi ∧ dk.closedLine < rowOf pos ∧
        (st = .planned ∨ st = .waitingDoor → e.inReserve rows pos = false) := by
  rw [← DepState.beforeDoor_iff]
  refine ⟨mem_candidates, fun ⟨hlo, hhi, hline, hres⟩ => ?_⟩
  simp only [candidates, List.mem_filter, List.mem_range'_1, Bool.and_eq_true, decide_eq_true_eq, Bool.not_eq_true',
    Bool.and_eq_false_iff]
  refine ⟨⟨hlo, by omega⟩, hline, ?_⟩
  cases hb : st.beforeDoor with
  | false => exact .inl rfl
  | true => exact .inr (hres hb)

/-- Position `a` is searched before position `b` for a pallet of class `c`, R17. -/
def ServiceClass.before (c : ServiceClass) (a b : Nat) : Prop := if c.fromTail then b < a else a < b

theorem ServiceClass.before_iff {c : ServiceClass} {a b : Nat} :
    c.before a b ↔ if c = .priority ∨ c = .timed then b < a else a < b := by
  cases c <;> simp [ServiceClass.before, ServiceClass.fromTail]

theorem ServiceClass.not_before_self (c : ServiceClass) (a : Nat) : ¬ c.before a a := by
  unfold ServiceClass.before; split <;> omega

theorem ServiceClass.before_asymm {c : ServiceClass} {a b : Nat} (h : c.before a b) : ¬ c.before b a := by
  unfold ServiceClass.before at *; split at h <;> simp_all <;> omega

/-- The candidates stand in the order in which they are searched, R17. -/
theorem classOrder_pairwise (c : ServiceClass) (e : DepartureEntry) (rows : Nat) (st : DepState) (dk : Deck) (lo hi : Nat) :
    (classOrder c (candidates e rows st dk lo hi)).Pairwise c.before := by
  have rising : (candidates e rows st dk lo hi).Pairwise (· < ·) := List.Pairwise.filter _ List.pairwise_lt_range'
  unfold classOrder ServiceClass.before
  split
  · exact List.pairwise_reverse.mpr rising
  · exact rising

/-- In an ordered list the search for an item finds none before the one it answers. -/
theorem find?_first {α : Type} {R : α → α → Prop} (hR : ∀ a, ¬ R a a) (hasymm : ∀ a b, R a b → ¬ R b a) {l : List α}
    (hl : l.Pairwise R) {p : α → Bool} {a b : α} (h : l.find? p = some a) (hb : b ∈ l) (hpb : p b = true) : ¬ R b a := by
  obtain ⟨-, before, after, rfl, hbefore⟩ := List.find?_eq_some_iff_append.mp h
  rw [List.pairwise_append, List.pairwise_cons] at hl
  obtain ⟨-, ⟨hafter, -⟩, -⟩ := hl
  rcases List.mem_append.mp hb with hb | hb
  · have := hbefore b hb; simp [hpb] at this
  · rcases List.mem_cons.mp hb with rfl | hb
    · exact hR b
    · exact hasymm a b (hafter b hb)

/-- Two passes find nothing exactly where no position passes both checks, R17. -/
theorem twoPass_none_iff {f : Floor} {pr : Profile} {dk : Deck} {p : Pallet} {order : List Nat} :
    twoPass f pr dk p order = none ↔ ∀ q ∈ order, ¬ f.fits pr dk p q = true := by
  constructor
  · intro h q hq hfit
    unfold twoPass at h
    split at h
    · cases h
    · rename_i hfirst
      have h1 := List.find?_eq_none.mp hfirst q hq
      have h2 := List.find?_eq_none.mp h q hq
      cases he : (dk.stackAt q).isEmpty <;> simp [he, hfit] at h1 h2
  · intro h
    cases ht : twoPass f pr dk p order with
    | none => rfl
    | some q => exact absurd (twoPass_some ht).2 (h q (twoPass_some ht).1)

/-- The first pass goes before the second, and each takes the first position in its order, R17. -/
theorem twoPass_first {f : Floor} {pr : Profile} {dk : Deck} {p : Pallet} {c : ServiceClass} {order : List Nat} {pos : Nat}
    (hord : order.Pairwise c.before) (h : twoPass f pr dk p order = some pos) :
    (dk.stackAt pos ≠ [] → ∀ q ∈ order, f.fits pr dk p q = true → dk.stackAt q ≠ [] → ¬ c.before q pos) ∧
    (dk.stackAt pos = [] → ∀ q ∈ order, f.fits pr dk p q = true → dk.stackAt q = [] ∧ ¬ c.before q pos) := by
  have first {pred} (hf : order.find? pred = some pos) {q} (hq : q ∈ order) (hpq : pred q = true) : ¬ c.before q pos :=
    find?_first c.not_before_self (fun _ _ => ServiceClass.before_asymm) hord hf hq hpq
  unfold twoPass at h
  split at h
  · rename_i hpass
    cases h
    have hpos := List.find?_some hpass
    refine ⟨fun _ q hq hfit hne => first hpass hq (by simp [hne, hfit]), fun hempty => ?_⟩
    simp [hempty] at hpos
  · rename_i hnone
    have hpos := List.find?_some h
    refine ⟨fun hne => by simp [hne] at hpos, fun _ q hq hfit => ?_⟩
    have hq' : dk.stackAt q = [] := by
      have := List.find?_eq_none.mp hnone q hq
      simpa [hfit] using this
    exact ⟨hq', first h hq (by simp [hq', hfit])⟩

/-- What a placement search does once entry, profile, departure state and region are known, R15 to R17. -/
theorem Floor.findPlace_eq {f : Floor} {env : Env} {d ref lo hi : Nat} {e : DepartureEntry} {pr : Profile}
    (he : env.depEntry d = some e) (hpr : env.profileOf d = some pr) (hst : (f.departure d).state.searchable = true)
    (hslot : (f.pallet ref).slot = none) (hreg : e.region pr.rows (f.pallet ref).dest = some (lo, hi)) :
    f.findPlace env d ref =
      twoPass f pr (f.deck d) (f.pallet ref)
        (classOrder (f.pallet ref).cls (candidates e pr.rows (f.departure d).state (f.deck d) lo hi)) := by
  simp [Floor.findPlace, he, hpr, hst, hslot, hreg]

/-- A search that answers has found entry, profile, a searchable departure and the region, R15. -/
theorem Floor.findPlace_some {f : Floor} {env : Env} {d ref pos : Nat} (h : f.findPlace env d ref = some pos) :
    ∃ e pr lo hi, env.depEntry d = some e ∧ env.profileOf d = some pr ∧ (f.departure d).state.searchable = true ∧
      (f.pallet ref).slot = none ∧ e.region pr.rows (f.pallet ref).dest = some (lo, hi) := by
  unfold Floor.findPlace at h
  split at h
  · rename_i e pr he hpr
    simp only at h
    split at h
    · cases h
    · rename_i hc
      simp only [Bool.or_eq_true, Bool.not_eq_true', not_or, Bool.not_eq_false, Bool.not_eq_true,
        Option.isSome_eq_false_iff, Option.isNone_iff_eq_none] at hc
      split at h
      · cases h
      · rename_i lo hi hreg
        exact ⟨e, pr, lo, hi, he, hpr, hc.1, hc.2, hreg⟩
  · cases h

/-- A candidate position with both checks passed is legal, R3, R4, R9, R15, R16. -/
theorem mem_classOrder_fits_iff {f : Floor} {e : DepartureEntry} {pr : Profile} {st : DepState} {dk : Deck} {p : Pallet}
    {lo hi q : Nat} :
    (q ∈ classOrder p.cls (candidates e pr.rows st dk lo hi) ∧ f.fits pr dk p q = true) ↔
      lo ≤ q ∧ q ≤ hi ∧ dk.closedLine < rowOf q ∧
        (st = .planned ∨ st = .waitingDoor → e.inReserve pr.rows q = false) ∧
        stackCheck pr ((dk.stackAt q).map fun x => (f.pallet x.ref).toLoad) p.toLoad = true ∧
        trailerCheck pr dk.w dk.m p.weight (rowOf q) = true := by
  rw [mem_classOrder, mem_candidates_iff, Floor.fits, Bool.and_eq_true]
  simp only [and_assoc]

/-- The totals that a placement leaves in its own deck map, R18. -/
theorem Yard.place_totals {y : Yard} {env : Env} {d ref pos : Nat} {pr : Profile} (h : env.profileOf d = some pr) :
    ((y.place env d ref pos).deck d).w = (y.deck d).w + (y.pallet ref).weight ∧
    ((y.place env d ref pos).deck d).m = (y.deck d).m + (y.pallet ref).weight * pr.lever (rowOf pos) := by
  rw [Yard.place_eq h]
  simp [Floor.deck, Deck.push]

/-- The position chosen is legal, and the placement there keeps the limits. -/
theorem Floor.findPlace_legal {y : Yard} {env : Env} {d ref pos : Nat} (h : y.findPlace env d ref = some pos) :
    ∃ e pr lo hi, env.depEntry d = some e ∧ env.profileOf d = some pr ∧
      (y.departure d).state.searchable = true ∧ (y.pallet ref).slot = none ∧
      e.region pr.rows (y.pallet ref).dest = some (lo, hi) ∧ lo ≤ pos ∧ pos ≤ hi ∧
      (y.deck d).closedLine < rowOf pos ∧
      ((y.departure d).state = .planned ∨ (y.departure d).state = .waitingDoor → e.inReserve pr.rows pos = false) ∧
      stackCheck pr (((y.deck d).stackAt pos).map fun x => (y.pallet x.ref).toLoad) (y.pallet ref).toLoad = true ∧
      ((y.place env d ref pos).deck d).w = (y.deck d).w + (y.pallet ref).weight ∧
      ((y.place env d ref pos).deck d).w ≤ pr.payload ∧ ((y.place env d ref pos).deck d).k ≤ pr.kingpin ∧
      ((y.place env d ref pos).deck d).b ≤ pr.bogie := by
  obtain ⟨e, pr, lo, hi, he, hpr, hst, hslot, hreg⟩ := Floor.findPlace_some h
  rw [Floor.findPlace_eq he hpr hst hslot hreg] at h
  obtain ⟨hlo, hhi, hline, hres, hstack, htrailer⟩ := mem_classOrder_fits_iff.mp (twoPass_some h)
  obtain ⟨hw, hm⟩ := Yard.place_totals (y := y) (ref := ref) (pos := pos) hpr
  rw [trailerCheck_iff, ← hw, ← hm] at htrailer
  obtain ⟨hpay, hking, hbogie⟩ := htrailer
  exact ⟨e, pr, lo, hi, he, hpr, hst, hslot, hreg, hlo, hhi, hline, hres, hstack, hw, hpay, hking, hbogie⟩

/-! ## Totals over a deck map -/

/-- A sum over the positions from `pos` on, of a value that each position's stack has. -/
def placeSum (h : Nat → List Entry → Nat) : Nat → List (List Entry) → Nat
  | _, [] => 0
  | pos, stk :: rest => h pos stk + placeSum h (pos + 1) rest

/-- The sum over one stack of a value that position and pallet fix. -/
def stackSum (g : Nat → Nat → Nat) (pos : Nat) (stk : List Entry) : Nat := (stk.map fun e => g pos e.ref).sum

/-- 1 for a position that holds a pallet, R10. -/
def usedCount (_pos : Nat) (stk : List Entry) : Nat := if stk.isEmpty then 0 else 1

theorem map_tierSlots (g : Nat → Nat → Nat) (pos : Nat) (t : Nat) (stk : List Entry) :
    (tierSlots pos t stk).map (fun x => g x.pos x.entry.ref) = stk.map fun e => g pos e.ref := by
  induction stk generalizing t with
  | nil => rfl
  | cons e rest ih => simp [tierSlots, ih]

/-- A sum over the entries in load order is taken position by position. -/
theorem sum_placeSlots (g : Nat → Nat → Nat) (pos : Nat) (places : List (List Entry)) :
    ((placeSlots pos places).map fun x => g x.pos x.entry.ref).sum = placeSum (stackSum g) pos places := by
  induction places generalizing pos with
  | nil => rfl
  | cons stk rest ih => simp [placeSlots, placeSum, stackSum, map_tierSlots, ih]

theorem length_filter_used (pos : Nat) (places : List (List Entry)) :
    (places.filter fun stk => !stk.isEmpty).length = placeSum usedCount pos places := by
  induction places generalizing pos with
  | nil => rfl
  | cons stk rest ih =>
    cases h : stk.isEmpty <;> simp [placeSum, usedCount, h, ih (pos + 1), Nat.add_comm]

/-- R10 position by position. -/
theorem Deck.totalsAgree_iff {dk : Deck} {pr : Profile} {weight : Nat → Nat} :
    dk.totalsAgree pr weight = true ↔
      dk.w = placeSum (stackSum fun _ r => weight r) 1 dk.places ∧
      dk.m = placeSum (stackSum fun pos r => weight r * pr.lever (rowOf pos)) 1 dk.places ∧
      dk.used = placeSum usedCount 1 dk.places := by
  simp only [Deck.totalsAgree, Bool.and_eq_true, beq_iff_eq, and_assoc, Deck.slots, ← sum_placeSlots,
    length_filter_used 1]

/-- What a change of one stack does to a sum over the positions. -/
theorem placeSum_modify (h : Nat → List Entry → Nat) (g : List Entry → List Entry) {stk : List Entry} :
    ∀ {places : List (List Entry)} {i : Nat} (pos : Nat), places[i]? = some stk →
      placeSum h pos (places.modify i g) + h (pos + i) stk = placeSum h pos places + h (pos + i) (g stk)
  | [], i, _, hi => by simp at hi
  | s :: rest, 0, pos, hi => by
    cases hi
    simp only [List.modify_zero_cons, placeSum, Nat.add_zero]
    omega
  | s :: rest, i + 1, pos, hi => by
    have ih := placeSum_modify h g (places := rest) (i := i) (pos + 1) hi
    rw [show pos + 1 + i = pos + (i + 1) by omega] at ih
    simp only [List.modify_succ_cons, placeSum]
    omega

theorem placeSum_map {h : Nat → List Entry → Nat} {g : List Entry → List Entry} (hg : ∀ pos stk, h pos (g stk) = h pos stk)
    (pos : Nat) (places : List (List Entry)) : placeSum h pos (places.map g) = placeSum h pos places := by
  induction places generalizing pos with
  | nil => rfl
  | cons stk rest ih => simp [placeSum, hg, ih]

/-- A stack's sum with the entries of one pallet taken out. -/
theorem stackSum_filter (g : Nat → Nat → Nat) (pos ref : Nat) (stk : List Entry) :
    stackSum g pos stk =
      stackSum g pos (stk.filter fun x => x.ref ≠ ref) + (stk.filter fun x => x.ref = ref).length * g pos ref := by
  induction stk with
  | nil => simp [stackSum]
  | cons e rest ih =>
    simp only [stackSum] at ih ⊢
    by_cases he : e.ref = ref
    · simp [he, ih, Nat.add_mul]; omega
    · simp [he, ih]; omega

/-- The stack at a position that the map has. -/
theorem Deck.getElem?_stackAt {dk : Deck} {pos : Nat} (h1 : 1 ≤ pos) (h2 : pos ≤ dk.places.length) :
    dk.places[pos - 1]? = some (dk.stackAt pos) := by
  have : pos - 1 < dk.places.length := by omega
  simp [Deck.stackAt, List.getElem?_eq_getElem this, List.getD_eq_getElem?_getD]

@[simp] theorem stackSum_append (g : Nat → Nat → Nat) (pos : Nat) (stk : List Entry) (e : Entry) :
    stackSum g pos (stk ++ [e]) = stackSum g pos stk + g pos e.ref := by simp [stackSum]

@[simp] theorem usedCount_append (pos : Nat) (stk : List Entry) (e : Entry) : usedCount pos (stk ++ [e]) = 1 := by
  simp [usedCount]

/-- A placement keeps R10 in its deck map. -/
theorem Deck.totalsAgree_push {dk : Deck} {pr : Profile} {weight : Nat → Nat} {pos : Nat} {e : Entry} (h1 : 1 ≤ pos)
    (h2 : pos ≤ dk.places.length) (h : dk.totalsAgree pr weight = true) :
    (dk.push pr pos e (weight e.ref)).totalsAgree pr weight = true := by
  rw [Deck.totalsAgree_iff] at h ⊢
  obtain ⟨hw, hm, hused⟩ := h
  have change (s : Nat → List Entry → Nat) := placeSum_modify s (· ++ [e]) 1 (Deck.getElem?_stackAt h1 h2)
  simp only [show 1 + (pos - 1) = pos by omega] at change
  refine ⟨?_, ?_, ?_⟩ <;> simp only [Deck.push]
  · have := change (stackSum fun _ r => weight r)
    rw [stackSum_append] at this
    omega
  · have := change (stackSum fun pos r => weight r * pr.lever (rowOf pos))
    rw [stackSum_append] at this
    omega
  · have := change usedCount
    rw [usedCount_append, usedCount] at this
    split at this <;> simp_all

/-- A removal keeps R10 in its deck map where the pallet has one entry at the position, R19. -/
theorem Deck.totalsAgree_pull {dk : Deck} {pr : Profile} {weight : Nat → Nat} {pos ref : Nat} (h1 : 1 ≤ pos)
    (hone : ((dk.stackAt pos).filter fun x => x.ref = ref).length = 1) (h : dk.totalsAgree pr weight = true) :
    (dk.pull pr pos ref (weight ref)).totalsAgree pr weight = true := by
  rw [Deck.totalsAgree_iff] at h ⊢
  obtain ⟨hw, hm, hused⟩ := h
  have h2 : pos ≤ dk.places.length := by
    by_contra hlen
    have : dk.places[pos - 1]? = none := List.getElem?_eq_none (by omega)
    simp [Deck.stackAt, List.getD_eq_getElem?_getD, this] at hone
  have hstk := Deck.getElem?_stackAt h1 h2
  have hnew : (dk.places.modify (pos - 1) fun stk => stk.filter fun x => x.ref ≠ ref).getD (pos - 1) [] =
      (dk.stackAt pos).filter fun x => x.ref ≠ ref := by
    simp [List.getD_eq_getElem?_getD, hstk]
  have hfull : usedCount pos (dk.stackAt pos) = 1 := by
    cases he : dk.stackAt pos with
    | nil => simp [he] at hone
    | cons => rfl
  have change (s : Nat → List Entry → Nat) := placeSum_modify s (fun stk => stk.filter fun x => x.ref ≠ ref) 1 hstk
  simp only [show 1 + (pos - 1) = pos by omega] at change
  refine ⟨?_, ?_, ?_⟩ <;> simp only [Deck.pull]
  · have := change (stackSum fun _ r => weight r)
    rw [stackSum_filter _ pos ref (dk.stackAt pos), hone, Nat.one_mul] at this
    omega
  · have := change (stackSum fun pos r => weight r * pr.lever (rowOf pos))
    rw [stackSum_filter _ pos ref (dk.stackAt pos), hone, Nat.one_mul] at this
    omega
  · have := change usedCount
    rw [hfull, usedCount] at this
    rw [hnew]
    split at this
    · rename_i hempty; rw [if_pos hempty]; omega
    · rename_i hempty; rw [if_neg hempty]; omega

@[simp] theorem Entry.shift_ref (e : Entry) (ref : Nat) (src dst : LoadStatus) : (e.shift ref src dst).ref = e.ref := by
  unfold Entry.shift; split <;> rfl

/-- A load status that changes leaves R10 as it was, R7. -/
theorem Deck.totalsAgree_shift {dk : Deck} {pr : Profile} {weight : Nat → Nat} (ref : Nat) (src dst : LoadStatus) :
    (dk.shift ref src dst).totalsAgree pr weight = dk.totalsAgree pr weight := by
  have same (g : Nat → Nat → Nat) (pos : Nat) (stk : List Entry) :
      stackSum g pos (stk.map fun e => e.shift ref src dst) = stackSum g pos stk := by
    simp [stackSum, Function.comp_def]
  have sameUsed (pos : Nat) (stk : List Entry) :
      usedCount pos (stk.map fun e => e.shift ref src dst) = usedCount pos stk := by
    simp [usedCount]
  rw [Bool.eq_iff_iff, Deck.totalsAgree_iff, Deck.totalsAgree_iff]
  simp only [Deck.shift, placeSum_map (same _), placeSum_map sameUsed]

/-! ## Totals on the floor -/

/-- A change of records that keeps a field keeps what is read of it. -/
theorem Tab.at_modify_field {α β : Type} (field : α → β) {g : α → α} (hg : ∀ v, field (g v) = field v) (d : α) (t : Tab α)
    (k i : Nat) : field (Tab.at d (t.modify k g) i) = field (Tab.at d t i) := by
  by_cases h : i = k
  · subst h
    cases ht : t.get i <;> simp [Tab.at, ht, hg]
  · simp [Tab.at, Tab.get_modify_other, h]

theorem Floor.weight_modify {f g : Floor} {ref : Nat} {u : Pallet → Pallet} (h : g.pallets = f.pallets.modify ref u)
    (hu : ∀ p, (u p).weight = p.weight) (r : Nat) : (g.pallet r).weight = (f.pallet r).weight := by
  unfold Floor.pallet
  rw [h]
  exact Tab.at_modify_field Pallet.weight hu ..

/-- R10 for every deck map, where one map is written and no pallet's weight changes. -/
theorem Floor.totalsAgree_put {f g : Floor} {env : Env} {d : Nat} {dk : Deck} (hdecks : g.decks = f.decks.put d dk)
    (hweight : ∀ r, (g.pallet r).weight = (f.pallet r).weight) (hf : ∀ k, f.totalsAgree env k = true)
    (hdk : ∀ pr, env.profileOf d = some pr → (f.deck d).totalsAgree pr (fun r => (f.pallet r).weight) = true →
      dk.totalsAgree pr (fun r => (f.pallet r).weight) = true) (k : Nat) : g.totalsAgree env k = true := by
  have hk := hf k
  unfold Floor.totalsAgree at hk ⊢
  simp only [hweight]
  split at hk
  · rename_i pr hpr
    by_cases hkd : k = d
    · subst hkd
      simpa [Floor.deck, hdecks] using hdk pr hpr hk
    · simpa [Floor.deck, hdecks, Tab.at_put_other, hkd] using hk
  · rfl

section

variable {y : Yard} {env : Env} (h : ∀ k, y.totalsAgree env k = true)

include h

theorem Yard.totalsAgree_place {d ref pos : Nat} (h1 : 1 ≤ pos) (h2 : pos ≤ (y.deck d).places.length) (k : Nat) :
    (y.place env d ref pos).totalsAgree env k = true := by
  cases hpr : env.profileOf d with
  | none => simpa [Yard.place, hpr] using h k
  | some pr =>
    rw [Yard.place_eq hpr]
    refine Floor.totalsAgree_put rfl (Floor.weight_modify rfl fun _ => ?_) h (fun pr' hpr' hdk => ?_) k
    · rfl
    cases hpr.symm.trans hpr'
    exact Deck.totalsAgree_push (e := { ref := ref, status := .planned }) h1 h2 hdk

theorem Yard.totalsAgree_pullEntry {d ref pos : Nat} (h1 : 1 ≤ pos)
    (hone : (((y.deck d).stackAt pos).filter fun x => x.ref = ref).length = 1) (k : Nat) :
    (y.pullEntry env d ref pos).totalsAgree env k = true := by
  cases hpr : env.profileOf d with
  | none => simpa [Yard.pullEntry, hpr] using h k
  | some pr =>
    rw [Yard.pullEntry_eq hpr]
    refine Floor.totalsAgree_put rfl (Floor.weight_modify rfl fun _ => ?_) h (fun pr' hpr' hdk => ?_) k
    · rfl
    cases hpr.symm.trans hpr'
    exact Deck.totalsAgree_pull h1 hone hdk

theorem Yard.totalsAgree_shiftStatus {d ref : Nat} {src dst : LoadStatus} (k : Nat) :
    (y.shiftStatus d ref src dst).totalsAgree env k = true :=
  Floor.totalsAgree_put (y.setDeck_decks d _) (fun _ => rfl) h (fun _ _ hdk => (Deck.totalsAgree_shift ..).trans hdk) k

theorem Yard.totalsAgree_loadEntry {d ref : Nat} (k : Nat) : (y.loadEntry d ref).totalsAgree env k = true := by
  cases hs : (y.deck d).slotOf ref with
  | none => simpa [Yard.loadEntry, hs] using h k
  | some s =>
    by_cases hrel : s.entry.status = .released
    · rw [Yard.loadEntry_released hs hrel]
      refine Floor.totalsAgree_put rfl (Floor.weight_modify rfl fun _ => ?_) h
        (fun _ _ hdk => (Deck.totalsAgree_shift ..).trans hdk) k
      rfl
    · simpa [Yard.loadEntry, hs, hrel] using h k

end

/-- Settles O33: the search takes the first of the legal positions in class order, and each change of an entry changes the
totals by that entry's share. -/
theorem placementIsLegalAndKeepsTheLimits : Obligations.PlacementIsLegalAndKeepsTheLimits := by
  refine ⟨fun y env d ref pos => Floor.findPlace_legal, ?_, fun y env h => ⟨fun _ _ _ k h1 h2 =>
    Yard.totalsAgree_place h h1 h2 k, fun _ _ _ k h1 hone => Yard.totalsAgree_pullEntry h h1 hone k,
    fun _ _ _ _ => Yard.totalsAgree_shiftStatus h, fun _ _ => Yard.totalsAgree_loadEntry h⟩⟩
  intro y env d ref lo hi e pr legal sooner he hpr hcut hclosed hslot hreg hlegal hsooner
  rw [Floor.findPlace_eq he hpr (DepState.searchable_iff.mpr ⟨hcut, hclosed⟩) hslot hreg]
  have legal_iff (q) := (hlegal q).trans mem_classOrder_fits_iff.symm
  have sooner_iff (q p) := (hsooner q p).trans (ServiceClass.before_iff (c := (y.pallet ref).cls)).symm
  simp only [legal_iff, sooner_iff]
  refine ⟨twoPass_none_iff.trans ⟨fun h q hq => h q hq.1 hq.2, fun h q hq hfit => h q ⟨hq, hfit⟩⟩, fun pos hpos => ?_⟩
  obtain ⟨stacked, empty⟩ := twoPass_first (classOrder_pairwise ..) hpos
  exact ⟨twoPass_some hpos, fun hne q hq => stacked hne q hq.1 hq.2, fun he q hq => empty he q hq.1 hq.2⟩

end Sys2Proof.Machine

namespace Sys2Proof.Machine

/-! ## DEPART of a departure that is CUT -/

/-- A request on a departure of the plan while the night is OPEN. -/
theorem onDeparture_open {c : Byte} {night : Bool} {env : Env} {e : DepartureEntry} {k : Nat → DepartureEntry → Answer Yard}
    (h1 : 1 ≤ c.toNat) (h2 : c.toNat ≤ 48) (hopen : env.isOpen = true) (he : env.depEntry c.toNat = some e) :
    onDeparture [c] night env k = k c.toNat e := by
  rw [onDeparture, numbered_in h1 h2, he]
  simp [hopen]

theorem Floor.departure_of_get {f : Floor} {d : Nat} {r : Departure} (h : f.departures.get d = some r) :
    f.departure d = r := by simp [Floor.departure, Tab.at, h]

/-- Records that are freed one after the other: theirs are gone, and nothing but pallet records and tasks changes, R55. -/
theorem Yard.foldl_freePallet (refs : List Nat) (y : Yard) :
    ∃ p t, refs.foldl (fun z ref => z.freePallet ref) y = { y with pallets := p, tasks := t } ∧
      (∀ ref ∈ refs, p.get ref = none) ∧ (∀ ref, ref ∉ refs → p.get ref = y.pallets.get ref) := by
  induction refs generalizing y with
  | nil => exact ⟨y.pallets, y.tasks, rfl, by simp, fun _ _ => rfl⟩
  | cons first rest ih =>
    obtain ⟨p, t, hfold, hfreed, hkept⟩ := ih (y.freePallet first)
    refine ⟨p, t, hfold, fun ref href => ?_, fun ref href => ?_⟩
    · by_cases hrest : ref ∈ rest
      · exact hfreed ref hrest
      · obtain rfl : ref = first := by simpa [hrest] using href
        rw [hkept ref hrest]
        exact Tab.get_erase_same ..
    · rw [List.mem_cons, not_or] at href
      rw [hkept ref href.2]
      exact Tab.get_erase_other _ href.1

/-- What closing leaves of a CUT departure at its door with nothing but LOADED entries aboard, R50 steps 3 to 6, R25, R122,
where freeing its pallets has left the records `p` and the tasks `t`. -/
def Yard.departed (y : Yard) (env : Env) (d door : Nat) (p : Tab Pallet) (t : Tab Task) : Yard :=
  { y with
    pallets := p
    tasks := t
    decks := y.decks.put d (Deck.blank (y.deck d).places.length)
    departures := (y.departures.modify d fun r =>
      { r with hold := false, stalled := false, departMinute := some env.minute, state := .closed }).modify d
        fun r => { r with doorTaken := false }
    doors := y.doors.set Door.reset door
      { y.door door with underlying := .changeover (env.minute + (env.plan.doorEntry door).gap) }
    notes := y.notes ++ [{
      minute := env.minute, object := d, droppedBefore := 0
      note := .departure (.closed (y.deck d).slots.length 0) (y.deck d).w (y.deck d).k (y.deck d).b }] }

@[simp] theorem Yard.departed_departures (y : Yard) (env : Env) (d door : Nat) (p : Tab Pallet) (t : Tab Task) :
    (y.departed env d door p t).departures.get d = (y.departures.get d).map fun r =>
      { r with
        hold := false, stalled := false, departMinute := some env.minute, state := .closed, doorTaken := false } := by
  simp [Yard.departed, Function.comp_def]

theorem Yard.departed_departures_other (y : Yard) (env : Env) {d i : Nat} (door : Nat) (p : Tab Pallet) (t : Tab Task)
    (h : i ≠ d) : (y.departed env d door p t).departures.get i = y.departures.get i := by
  simp [Yard.departed, Tab.get_modify_other, h]

@[simp] theorem Yard.departed_deck (y : Yard) (env : Env) (d door : Nat) (p : Tab Pallet) (t : Tab Task) :
    (y.departed env d door p t).deck d = Deck.blank (y.deck d).places.length := by
  simp [Yard.departed, Floor.deck]

theorem Yard.departed_deck_other (y : Yard) (env : Env) {d i : Nat} (door : Nat) (p : Tab Pallet) (t : Tab Task)
    (h : i ≠ d) : (y.departed env d door p t).deck i = y.deck i := by
  simp [Yard.departed, Floor.deck, Tab.at_put_other, h]

@[simp] theorem Yard.departed_door (y : Yard) (env : Env) (d door : Nat) (p : Tab Pallet) (t : Tab Task) :
    (y.departed env d door p t).door door =
      { y.door door with underlying := .changeover (env.minute + (env.plan.doorEntry door).gap) } :=
  Tab.at_set_same ..

theorem Yard.departed_door_other (y : Yard) (env : Env) (d : Nat) {door i : Nat} (p : Tab Pallet) (t : Tab Task)
    (h : i ≠ door) : (y.departed env d door p t).door i = y.door i := Tab.at_set_other _ _ _ h

/-- Closing of a CUT departure at its door with nothing but LOADED entries aboard frees their pallets, R50, R25. -/
theorem Yard.close_cut {y : Yard} {env : Env} {d : Nat} {e : DepartureEntry} {r : Departure}
    (he : env.depEntry d = some e) (hr : y.departures.get d = some r) (hcut : r.state = .cut) (hdoor : r.doorTaken = true)
    (hloaded : ∀ x ∈ (y.deck d).slots, x.entry.status = .loaded) :
    ∃ p t,
      y.close env d =
        ({ w := (y.deck d).w, k := (y.deck d).k, b := (y.deck d).b, freed := (y.deck d).slots.length, missing := 0 },
          y.departed env d e.door p t) ∧
      (∀ x ∈ (y.deck d).slots, p.get x.entry.ref = none) ∧
      (∀ ref, (∀ x ∈ (y.deck d).slots, x.entry.ref ≠ ref) → p.get ref = y.pallets.get ref) := by
  obtain ⟨p, t, hfold, hfreed, hkept⟩ := Yard.foldl_freePallet ((y.deck d).slots.map (·.entry.ref)) y
  have hmissing : (y.deck d).slots.filter (fun s => s.entry.status != .loaded) = [] := by
    simpa [List.filter_eq_nil_iff] using hloaded
  refine ⟨p, t, ?_, fun x hx => hfreed _ (List.mem_map_of_mem hx), fun ref href => hkept ref ?_⟩
  · have hstate : (y.departure d).state = .cut := by rw [Floor.departure_of_get hr, hcut]
    simp only [Yard.close, hstate, if_true, hmissing, List.map_nil, List.foldl_nil, Yard.clearDeck, hfold]
    split
    · simp only [Yard.giveUpDoor, he]; rfl
    · rename_i hfree
      exact (hfree ((congrArg Departure.doorTaken (Floor.departure_modDep _ _ hr)).trans hdoor)).elim
  · simpa using href

/-- A changeover that has still to run does not end with the DEPART, R122. -/
theorem Yard.endIfDue_later {y : Yard} {env : Env} {n till : Nat} (h : (y.door n).underlying = .changeover till)
    (hlater : env.minute < till) : y.endIfDue env n = y := by
  simp [Yard.endIfDue, Floor.changeoverDue, h, Nat.not_le.mpr hlater]

/-- The answer to DEPART of such a departure, R50. -/
theorem answerDepart_cut {c : Byte} {env : Env} {y : Yard} {e : DepartureEntry} {r : Departure} {p : Tab Pallet}
    {t : Tab Task} {count : CloseCount} (h1 : 1 ≤ c.toNat) (h2 : c.toNat ≤ 48) (hopen : env.isOpen = true)
    (he : env.depEntry c.toNat = some e) (hr : y.departures.get c.toNat = some r) (hcut : r.state = .cut)
    (hdoor : r.doorTaken = true) (hgap : 0 < (env.plan.doorEntry e.door).gap)
    (hclose : y.close env c.toNat = (count, y.departed env c.toNat e.door p t)) :
    answerDepart [c] env y =
      .done (le16 count.w ++ le16 count.k ++ le16 count.b ++ le8 count.freed ++ le8 count.missing ++ le8 r.removedAtCut)
        (y.departed env c.toNat e.door p t) := by
  have hstate := Floor.departure_of_get hr
  have hafter := Floor.departure_of_get ((Yard.departed_departures y env c.toNat e.door p t).trans (by rw [hr]; rfl))
  refine (onDeparture_open h1 h2 hopen he).trans ?_
  simp only [hstate, hcut, hdoor, if_true, hclose]
  rw [Yard.watch_lanes (y := y.departed env c.toNat e.door p t) (before := y.toFloor) rfl, hafter,
    Yard.endIfDue_later (congrArg Door.underlying (Yard.departed_door ..)) (by omega)]

/-- Settles O50. -/
theorem departClosesAndStartsTheChangeover : Obligations.DepartClosesAndStartsTheChangeover := by
  intro s u tag c e r hu h1 h48 hopen hplan hr
  have he : u.toRun.env.depEntry c.toNat = some e := hplan
  constructor
  · intro hst
    refine congrArg Host.Outcome.next (takeRequest_asYard_refused hu ((onDeparture_open h1 h48 hopen he).trans ?_))
    rw [show u.toRun.yard.departure c.toNat = r from Floor.departure_of_get hr]
    rcases hst with hst | hst | hst <;> simp only [hst]
  · rintro dk hcut hdoor rfl hloaded hgap
    obtain ⟨p, t, hclose, hfreed, hkept⟩ := Yard.close_cut (y := u.toRun.yard) (env := u.toRun.env) he hr hcut hdoor hloaded
    have hanswer := answerDepart_cut h1 h48 hopen he hr hcut hdoor hgap hclose
    have hrecord := (Yard.departed_departures u.toRun.yard u.toRun.env c.toNat e.door p t).trans
      (congrArg (Option.map _) hr)
    exact ⟨_, congrArg Host.Outcome.next (takeRequest_asYard hu hanswer), hrecord,
      fun k hk => Yard.departed_departures_other _ _ _ _ _ hk, Yard.departed_deck .., fun k hk =>
      Yard.departed_deck_other _ _ _ _ _ hk, hfreed, hkept, congrArg Door.underlying (Yard.departed_door ..), fun k hk =>
      Yard.departed_door_other _ _ _ _ _ hk, rfl, rfl, rfl, rfl, rfl, rfl, rfl, rfl, rfl⟩

end Sys2Proof.Machine

namespace Sys2Proof.Machine

/-! ## TASK DONE of one lift: the body -/

theorem u16_le16_append {n : Nat} (h : n ≤ 65535) (rest : List Byte) : u16 (le16 n ++ rest) 0 = n := by
  simp [u16, u8, le16, byteOf]
  omega

theorem u32_le32 {n : Nat} (h : n ≤ 4294967295) : u32 (le32 n) 0 = n := by
  simp [u32, u16, u8, le32, le16, byteOf]
  omega

/-- The body of a TASK DONE of one lift by mover `m`, R102, with the label scanned. -/
def oneLift (id label : Nat) (m : Byte) : List Byte := le16 id ++ [m, 1#8] ++ le32 label

theorem oneLift_fields {id label : Nat} (m : Byte) (hid : id ≤ 65535) (hlabel : label ≤ 4294967295) :
    (oneLift id label m).length = 8 ∧ u16 (oneLift id label m) 0 = id ∧ u8 (oneLift id label m) 2 = m.toNat ∧
      u8 (oneLift id label m) 3 = 1 ∧ u32 (oneLift id label m) 4 = label := by
  refine ⟨rfl, ?_, rfl, rfl, u32_le32 hlabel⟩
  rw [oneLift, List.append_assoc]
  exact u16_le16_append hid _

/-- A report of the mover that holds the task, while the night is OPEN, R102 case (a). -/
theorem onReport_current {body : List Byte} {length id m : Nat} {env : Env} {y : Yard} {t : Task}
    {k : Nat → Nat → Task → Bool → Answer Yard} (hlen : body.length = length) (hid : u16 body 0 = id) (hm : u8 body 2 = m)
    (h1 : 1 ≤ m) (h24 : m ≤ 24) (hopen : env.isOpen = true) (ht : y.tasks.get id = some t) (hmover : t.mover = some m) :
    onReport body length true env y k = k id m t false := by
  subst hid hm
  have hjudge : t.judge (u8 body 2) = .current := by simp [Task.judge, hmover]
  simp [onReport, hlen, Nat.not_lt.mpr h1, Nat.not_lt.mpr h24, needsNight, hopen, ht, hjudge]

/-! ## What one lift does -/

theorem Tab.modify_of_get {α : Type} {t : Tab α} {k : Nat} {v : α} (g : α → α) (h : t.get k = some v) :
    t.modify k g = t.put k (g v) := by simp [Tab.modify, h]

theorem Floor.pallet_of_get {f : Floor} {ref : Nat} {p : Pallet} (h : f.pallets.get ref = some p) : f.pallet ref = p := by
  simp [Floor.pallet, Tab.at, h]

/-- One lift of a task that moves pallets is that of the first not yet moved, R103. -/
theorem Yard.recordLifts_one {y : Yard} {env : Env} {id ref : Nat} {rest : List Nat} {t : Task} (hkind : t.kind ≠ .posted)
    (hnext : t.unmoved = ref :: rest) : y.recordLifts env id t 1 = y.liftDone env id t ref := by
  simp [Yard.recordLifts, hkind, hnext]

/-- The result bytes of a TASK DONE of one lift in case (a), R103 to R105. -/
def oneLiftBytes (id label : Nat) (t : Task) (p : Pallet) (ended : Bool) : List Byte :=
  le16 id ++ le8 (t.done + 1) ++ le8 t.total ++ flag8 ended ++ le32 p.label ++ [0#8] ++
    flag8 (decide (label ≠ 0 ∧ label ≠ p.label))

section

variable {id label ref : Nat} {m : Byte} {rest : List Nat} {env : Env} {y : Yard} {t : Task} {p : Pallet}
  (hid : id ≤ 65535) (hlabel : label ≤ 4294967295) (h1 : 1 ≤ m.toNat) (h24 : m.toNat ≤ 24) (hopen : env.isOpen = true)
  (ht : y.tasks.get id = some t) (hmover : t.mover = some m.toNat) (hnext : t.unmoved = ref :: rest)
  (hp : y.pallets.get ref = some p) (hkind : t.kind ≠ .posted)

include hid hlabel h1 h24 hopen ht hmover hnext hp hkind

/-- TASK DONE of one lift: the lift, with the last lift the end of the task, and the watch, R103, R104. -/
theorem answerTaskDone_oneLift (hrem : 1 ≤ t.remaining) :
    answerTaskDone (oneLift id label m) env y =
      .done (oneLiftBytes id label t p (decide (1 = t.remaining)))
        ((if 1 = t.remaining then (y.liftDone env id t ref).endTask env id t false else y.liftDone env id t ref).watch env
          y.toFloor) := by
  obtain ⟨hlen, hfid, hfm, hfn, hfl⟩ := oneLift_fields m hid hlabel
  have hmismatch : mismatch label [p.label] = decide (label ≠ 0 ∧ label ≠ p.label) := by
    rw [Bool.eq_iff_iff]; simp [mismatch]
  have hrange : ¬(1 = 0 ∨ t.remaining < 1) := by omega
  refine (onReport_current hlen hfid hfm h1 h24 hopen ht hmover).trans ?_
  simp only [hfn, hfl, hrange, if_false, Yard.recordLifts_one hkind hnext, hnext, List.take_succ_cons,
    List.take_zero, List.map_cons, List.map_nil, Floor.labelOf, Floor.pallet_of_get hp, hmismatch, decide_eq_true_eq]
  simp [oneLiftBytes, flag8, le8, byteOf]

theorem answerTaskDone_firstLift (hrem : 1 < t.remaining) :
    answerTaskDone (oneLift id label m) env y =
      .done (oneLiftBytes id label t p false) ((y.liftDone env id t ref).watch env y.toFloor) := by
  rw [answerTaskDone_oneLift hid hlabel h1 h24 hopen ht hmover hnext hp hkind (by omega)]
  simp [show ¬ 1 = t.remaining by omega]

end

end Sys2Proof.Machine

namespace Sys2Proof.Machine

/-! ## The end of an ISSUED task, R104 -/

/-- The floor without task `id`, which stood at `level` and was mover `m`'s: it has left pool, queue and issue order, and the
mover is IDLE with it as its last task, R104. -/
def Yard.ended (y : Yard) (id level m : Nat) : Yard :=
  { y with
    tasks := y.tasks.erase id
    issued := y.issued.filter (· ≠ id)
    queues := y.queues.set [] level ((y.queue level).filter (· ≠ id))
    movers := y.movers.set Mover.reset m { state := .idle, last := some id } }

/-- What is read of the dispatcher of `z` where it is that of `y` but for the end of mover `m`'s task `id` at `level`: pool,
movers, queues and issue order, R104. -/
def Yard.EndedFrom (y z : Yard) (id level m : Nat) : Prop :=
  z.tasks.get id = none ∧ (∀ k, k ≠ id → z.tasks.get k = y.tasks.get k) ∧
  z.mover m = { state := .idle, last := some id } ∧ (∀ k, k ≠ m → z.mover k = y.mover k) ∧
  z.queue level = (y.queue level).filter (· ≠ id) ∧ (∀ k, k ≠ level → z.queue k = y.queue k) ∧
  z.issued = y.issued.filter (· ≠ id)

/-- The end of a task that is all `z` had changed of the dispatcher. -/
theorem Yard.endedFrom_ended {y z : Yard} {id level m : Nat} {g : Task → Task} (htasks : z.tasks = y.tasks.modify id g)
    (hqueues : z.queues = y.queues) (hissued : z.issued = y.issued) (hmovers : z.movers = y.movers) :
    y.EndedFrom (z.ended id level m) id level m := by
  refine ⟨Tab.get_erase_same .., fun k hk => ?_, Tab.at_set_same .., fun k hk => ?_, ?_, fun k hk => ?_, ?_⟩
  · simp [Yard.ended, htasks, Tab.get_erase_other, Tab.get_modify_other, hk]
  · simp [Yard.ended, Floor.mover, hmovers, Tab.at_set_other, hk]
  · simp [Yard.ended, Floor.queue, hqueues]
  · simp [Yard.ended, Floor.queue, hqueues, Tab.at_set_other, hk]
  · simp [Yard.ended, hissued]

/-- An ISSUED task leaves the pool with an empty backlog and no departure stalled, R93, R104. -/
theorem Yard.endTask_quiet {y : Yard} {env : Env} {id m : Nat} {t t' : Task} (ht : y.tasks.get id = some t')
    (hmover : t'.mover = some m) (hbacklog : y.backlog = []) (hstalled : y.stalledDeps = [])
    (htold : ∀ d, t.loads = true → t.dep = some d → (y.departure d).state ≠ .stopping) :
    y.endTask env id t false = y.ended id t'.level m := by
  have hfree : y.freeMover id .idle = y.setMover m { state := .idle, last := some id } := by
    simp [Yard.freeMover, ht, hmover]
  have hout : (y.setMover m { state := .idle, last := some id }).takeTaskOut id = y.ended id t'.level m := by
    simp only [Yard.takeTaskOut, Yard.setMover_tasks, ht]
    rfl
  have hleave : (y.setMover m { state := .idle, last := some id }).leavePool env id = y.ended id t'.level m :=
    (Yard.leavePool_quiet (y := y.setMover m _) (by simp [Tab.has, ht]) hbacklog (by rw [hout]; exact hstalled)).trans hout
  simp only [Yard.endTask, hfree, hleave, Yard.toldEnded]
  split
  · exact absurd ‹false = true› (by decide)
  · split
    · exact Yard.stopTest_of_state (htold _ ‹_› ‹_›)
    · rfl

/-! ## The watch after one lane's change -/

theorem foldl_same {α σ : Type} {g : σ → α → σ} {y : σ} {l : List α} (h : ∀ a ∈ l, g y a = y) : l.foldl g y = y := by
  induction l with
  | nil => rfl
  | cons a rest ih =>
    rw [List.foldl_cons, h a List.mem_cons_self]
    exact ih fun b hb => h b (List.mem_cons_of_mem _ hb)

/-- Without a low limit an occupancy that does not rise crosses nothing, R86. -/
theorem Lane.crossed_fall {r : Lane} {b a : Nat} (hlow : r.low = none) (h : a ≤ b) : r.crossed b a = none := by
  have up (limit : Nat) : ¬(b < limit ∧ limit ≤ a) := by omega
  cases hhigh : r.high <;> simp only [Lane.crossed, hhigh, hlow, up, if_false]

/-- The watch finds nothing where one lane without low limit has lost pallets, R86. -/
theorem Yard.watch_lane_left {y z : Yard} {env : Env} {l : Nat} {r : Lane} (hlanes : z.lanes = y.lanes.set Lane.reset l r)
    (hlow : r.low = none) (hocc : r.occupancy ≤ y.occupancy l) : z.watch env y.toFloor = z := by
  refine foldl_same fun k _ => ?_
  have hcross : (z.lane k).crossed (y.occupancy k) (z.occupancy k) = none := by
    by_cases hk : k = l
    · subst hk
      have hlane : z.lane k = r := by simp [Floor.lane, hlanes]
      show (z.lane k).crossed (y.occupancy k) (z.lane k).occupancy = none
      rw [hlane]
      exact Lane.crossed_fall hlow hocc
    · have hlane : z.lane k = y.lane k := by simp [Floor.lane, hlanes, Tab.at_set_other, hk]
      show (z.lane k).crossed (y.lane k).occupancy (z.lane k).occupancy = none
      rw [hlane]
      exact Lane.crossed_same ..
  simp [Yard.watchLane, hcross]

/-- The watch finds nothing where one lane's record has changed and its occupancy has not, R86. -/
theorem Yard.watch_lane_kept {y z : Yard} {env : Env} {l : Nat} {r : Lane} (hlanes : z.lanes = y.lanes.set Lane.reset l r)
    (hocc : r.occupancy = y.occupancy l) : z.watch env y.toFloor = z := by
  refine Yard.watch_same fun k _ => ?_
  by_cases hk : k = l
  · subst hk; simp [Floor.occupancy, Floor.lane, hlanes] at hocc ⊢; exact hocc.symm
  · simp [Floor.occupancy, Floor.lane, hlanes, Tab.at_set_other, hk]

/-! ## The lift of each task kind, R103 -/

/-- A lift is recorded in its task, R103. -/
def Task.lifted (t : Task) : Task := { t with done := t.done + 1 }

theorem Loc.lane?_floor {l : Nat} (h : 2 ≤ l) : (Loc.floor l).lane? = some l := by simp [Loc.lane?, isLane, h]

/-- A TIP lift of a pallet whose departure neither loads nor stops, R58, R80. -/
theorem Yard.liftDone_tip {y : Yard} {env : Env} {id l ref d : Nat} {t : Task} {p : Pallet} (hkind : t.kind = .tip)
    (hdst : t.dst = .floor l) (hl : 2 ≤ l) (ht : y.tasks.get id = some t) (hp : y.pallets.get ref = some p)
    (hdep : p.dep = some d) (hload : (y.departure d).state ≠ .loading) (hstop : (y.departure d).state ≠ .stopping) :
    y.liftDone env id t ref =
      { y with
        pallets := y.pallets.put ref { p with state := .inLane, loc := some (.floor l) }
        lanes := y.lanes.set Lane.reset l
          { y.lane l with incoming := (y.lane l).incoming - 1, present := (y.lane l).present ++ [ref] }
        tasks := y.tasks.put id t.lifted } := by
  have hpallet : (y.modTask id Task.lifted).pallet ref = p := Floor.pallet_of_get hp
  have hlost : (y.modTask id Task.lifted).isLost ref = false := by simp [Floor.isLost, hpallet, hdep]
  have hlift : y.liftDone env id t ref = (y.modTask id Task.lifted).tipLift env l ref := by
    simp only [Yard.liftDone, hkind, hdst, Loc.lane?_floor hl]; rfl
  have htold : (y.modTask id Task.lifted).tipLift env l ref =
      (((y.modTask id Task.lifted).laneArrive l ref).modPallet ref fun p =>
        { p with state := .inLane, loc := some (.floor l) }).evaluate env d := by
    simp only [Yard.tipLift, hlost, hpallet, hdep, Bool.false_eq_true, if_false]
  rw [hlift, htold]
  refine (Yard.evaluate_of_state ?_ ?_).trans ?_
  · exact hload
  · exact hstop
  show ({ y with pallets := y.pallets.modify ref _, lanes := _, tasks := y.tasks.modify id _ } : Yard) = _
  rw [Tab.modify_of_get _ hp, Tab.modify_of_get _ ht]
  rfl

/-- A RELOCATE lift from a door to location 1, R58. -/
theorem Yard.liftDone_relocate {y : Yard} {env : Env} {id n ref : Nat} {t : Task} {p : Pallet} (hkind : t.kind = .relocate)
    (hsrc : t.src = .door n) (hdst : t.dst = .floor 1) (hp : y.pallets.get ref = some p) :
    y.liftDone env id t ref =
      { y with
        pallets := y.pallets.put ref { p with state := .held, loc := some (.floor 1) }
        tasks := y.tasks.modify id Task.lifted } := by
  simp only [Yard.liftDone, hkind, Yard.relocateLift, hsrc, hdst, Yard.leaveLoc]
  show ({ y with pallets := y.pallets.modify ref _, tasks := y.tasks.modify id _ } : Yard) = _
  rw [Tab.modify_of_get _ hp]
  rfl

/-- The floor after a pallet `p` has been loaded from lane `l` onto slot `x` of departure `d`, R8, R58, R80, before
departure control is told. -/
def Yard.loaded (y : Yard) (id l d ref : Nat) (p : Pallet) (x : Slot) : Yard :=
  { y with
    pallets := y.pallets.put ref { p with state := .onTrailer, loc := some (.trailer d x.pos x.tier) }
    decks := y.decks.put d ((y.deck d).shift ref .released .loaded)
    lanes := y.lanes.set Lane.reset l { y.lane l with present := (y.lane l).present.filter (· ≠ ref) }
    tasks := y.tasks.modify id Task.lifted }

@[simp] theorem Yard.loaded_deck (y : Yard) (id l d ref : Nat) (p : Pallet) (x : Slot) :
    (y.loaded id l d ref p x).deck d = (y.deck d).shift ref .released .loaded := by simp [Yard.loaded, Floor.deck]

theorem Yard.liftDone_load {y : Yard} {env : Env} {id l ref d : Nat} {t : Task} {p : Pallet} {x : Slot}
    (hkind : t.kind = .load) (hsrc : t.src = .floor l) (hl : 2 ≤ l) (hdep : t.dep = some d)
    (hp : y.pallets.get ref = some p) (hslot : (y.deck d).slotOf ref = some x) (hx : x.entry.status = .released) :
    y.liftDone env id t ref = (y.loaded id l d ref p x).evaluate env d := by
  have hlane : isLane l = true := by simp [isLane, hl]
  simp only [Yard.liftDone, hkind, hdep, Yard.loadLift, hsrc, Yard.leaveLoc, hlane, if_true]
  show Yard.evaluate (((y.modTask id Task.lifted).laneLeave l ref).loadEntry d ref) env d = _
  rw [Yard.loadEntry_released (y := (y.modTask id Task.lifted).laneLeave l ref) hslot hx]
  show Yard.evaluate { y with pallets := y.pallets.modify ref _, decks := _, lanes := _, tasks := _ } env d = _
  rw [Tab.modify_of_get _ hp]
  rfl

/-- The lane that the pallet has left holds no more than before, R77. -/
theorem Lane.occupancy_filter_le (r : Lane) (p : Nat → Bool) :
    ({ r with present := r.present.filter p } : Lane).occupancy ≤ r.occupancy :=
  Nat.add_le_add_right (List.length_filter_le ..) _

/-! ## The last entry of a departure is LOADED, R38 -/

theorem releaseWalk_loaded {d batch : Nat} {y : Yard} {slots : List Slot} (h : ∀ s ∈ slots, s.entry.status = .loaded) :
    releaseWalk d batch slots y = y := by
  induction slots with
  | nil => rfl
  | cons s rest ih =>
    unfold releaseWalk
    rw [h s List.mem_cons_self]
    exact ih fun z hz => h z (List.mem_cons_of_mem _ hz)

theorem placeSlots_of_empty {places : List (List Entry)} (h : places.all List.isEmpty = true) (pos : Nat) :
    placeSlots pos places = [] := by
  induction places generalizing pos with
  | nil => rfl
  | cons stk rest ih =>
    simp only [List.all_cons, Bool.and_eq_true, List.isEmpty_iff] at h
    obtain ⟨rfl, hrest⟩ := h
    simp [placeSlots, tierSlots, ih hrest]

/-- R38 read off the entries in load order. -/
theorem Deck.allLoaded_of_slots {dk : Deck} (hne : dk.slots ≠ []) (h : ∀ s ∈ dk.slots, s.entry.status = .loaded) :
    dk.allLoaded = true := by
  have hempty : dk.isEmpty = false := by
    by_contra he
    exact hne (placeSlots_of_empty (by simpa [Deck.isEmpty] using he) 1)
  simpa [Deck.allLoaded, hempty] using h

/-- The same slot with its entry's status changed, R7. -/
def Slot.shift (s : Slot) (ref : Nat) (src dst : LoadStatus) : Slot := { s with entry := s.entry.shift ref src dst }

theorem tierSlots_shift (ref : Nat) (src dst : LoadStatus) (pos t : Nat) (stk : List Entry) :
    tierSlots pos t (stk.map fun e => e.shift ref src dst) = (tierSlots pos t stk).map fun s => s.shift ref src dst := by
  induction stk generalizing t with
  | nil => rfl
  | cons e rest ih => simp [tierSlots, Slot.shift, ih]

theorem Deck.slots_shift (dk : Deck) (ref : Nat) (src dst : LoadStatus) :
    (dk.shift ref src dst).slots = dk.slots.map fun s => s.shift ref src dst := by
  have key (places : List (List Entry)) (pos : Nat) :
      placeSlots pos (places.map fun stk => stk.map fun e => e.shift ref src dst) =
        (placeSlots pos places).map fun s => s.shift ref src dst := by
    induction places generalizing pos with
    | nil => rfl
    | cons stk rest ih => simp [placeSlots, tierSlots_shift, ih]
  exact key dk.places 1

/-- The slot of a pallet's entry is one of the map's and holds the pallet. -/
theorem Deck.slotOf_some {dk : Deck} {ref : Nat} {x : Slot} (h : dk.slotOf ref = some x) :
    x ∈ dk.slots ∧ x.entry.ref = ref :=
  ⟨List.mem_of_find?_eq_some h, by simpa using List.find?_some h⟩

/-- Where every other entry is LOADED, the load of the last makes all LOADED, R8, R38. -/
theorem Deck.allLoaded_shift {dk : Deck} {ref : Nat} {x : Slot} (hslot : dk.slotOf ref = some x)
    (hx : x.entry.status = .released) (hothers : ∀ z ∈ dk.slots, z = x ∨ z.entry.status = .loaded) :
    (∀ s ∈ (dk.shift ref .released .loaded).slots, s.entry.status = .loaded) ∧
      (dk.shift ref .released .loaded).allLoaded = true := by
  obtain ⟨hmem, href⟩ := Deck.slotOf_some hslot
  have hall : ∀ s ∈ (dk.shift ref .released .loaded).slots, s.entry.status = .loaded := by
    rw [Deck.slots_shift]
    intro s hs
    obtain ⟨z, hz, rfl⟩ := List.mem_map.mp hs
    rcases hothers z hz with rfl | hz
    · simp [Slot.shift, Entry.shift, href, hx]
    · simp [Slot.shift, Entry.shift, hz]
  refine ⟨hall, Deck.allLoaded_of_slots ?_ hall⟩
  rw [Deck.slots_shift]
  simpa using List.ne_nil_of_mem hmem

/-- Departure control makes a LOADING departure LOADED once every entry is, R37, R38. -/
theorem Yard.evaluate_allLoaded {y : Yard} {env : Env} {d : Nat} {r : Departure} (hmute : env.mute = [])
    (hr : y.departures.get d = some r) (hstate : r.state = .loading)
    (hslots : ∀ s ∈ (y.deck d).slots, s.entry.status = .loaded) (hall : (y.deck d).allLoaded = true) :
    y.evaluate env d = (y.modDep d fun r => { r with state := .loaded }).depNote env d .loaded := by
  have hloading : (y.departure d).state = .loading := by rw [Floor.departure_of_get hr, hstate]
  have hrelease : y.release env d = y := by
    unfold Yard.release
    split
    · rfl
    · split
      · exact releaseWalk_loaded hslots
      · rfl
  have hstop (z : Yard) (hz : z.departures = y.departures.modify d fun r => { r with state := .loaded }) :
      (z.departure d).state ≠ .stopping := by
    have hloaded : z.departures.get d = some { r with state := .loaded } := by simp [hz, hr]
    simp [Floor.departure_of_get hloaded]
  unfold Yard.evaluate
  rw [hmute, if_neg (by simp), hrelease, Yard.loadedTest, if_pos ⟨hloading, hall⟩]
  exact Yard.stopTest_of_state (hstop _ (by rfl))

theorem mem_cellPut {α : Type} {k : Nat} {v : α} {c : Nat × α} :
    ∀ {cells : List (Nat × α)}, c ∈ cellPut cells k v → c = (k, v) ∨ c ∈ cells
  | [], h => by simpa [cellPut] using h
  | (j, u) :: rest, h => by
    have ih := mem_cellPut (k := k) (v := v) (c := c) (cells := rest)
    unfold cellPut at h
    split at h
    · simpa using h
    · split at h
      · rcases List.mem_cons.mp h with h | h
        · exact .inl h
        · exact .inr (List.mem_cons_of_mem _ h)
      · rcases List.mem_cons.mp h with h | h
        · exact .inr (h ▸ List.mem_cons_self)
        · exact (ih h).imp id (List.mem_cons_of_mem _)

/-- A departure that is written and does not load makes none stalled, R36. -/
theorem Floor.stalledDeps_modify {f g : Floor} {d : Nat} {u : Departure → Departure}
    (hg : g.departures = f.departures.modify d u) (hu : ∀ r, (u r).state ≠ .loading) (h : f.stalledDeps = []) :
    g.stalledDeps = [] := by
  simp only [Floor.stalledDeps, List.map_eq_nil_iff, List.filter_eq_nil_iff] at h ⊢
  rw [hg, Tab.modify]
  split
  · intro c hc
    rcases mem_cellPut hc with rfl | hc
    · simp [hu]
    · exact h c hc
  · exact h

end Sys2Proof.Machine

namespace Sys2Proof.Machine

/-! ## TASK DONE of one lift, clause by clause -/

/-- A DEPARTURE NOTE gives the totals of the deck map as it stands, R53. -/
theorem Yard.depNote_eq {y : Yard} {env : Env} {d : Nat} {dk : Deck} {e : DepartureEvent} (h : y.deck d = dk) :
    y.depNote env d e = y.note env d (.departure e dk.w dk.k dk.b) := by rw [Yard.depNote, h]

section

variable {id label ref : Nat} {m : Byte} {rest : List Nat} {env : Env} {y z : Yard} {t : Task} {p : Pallet}

/-- The last lift leaves `z`; then the task ends and, where the watch finds nothing, that is all, R103, R104. The
dispatcher then reads as before but for the task's end. -/
theorem answerTaskDone_lastLift (hid : id ≤ 65535) (hlabel : label ≤ 4294967295) (h1 : 1 ≤ m.toNat) (h24 : m.toNat ≤ 24)
    (hopen : env.isOpen = true) (ht : y.tasks.get id = some t) (hmover : t.mover = some m.toNat)
    (hnext : t.unmoved = ref :: rest) (hp : y.pallets.get ref = some p) (hkind : t.kind ≠ .posted) (hrem : t.remaining = 1)
    (hlift : y.liftDone env id t ref = z) (htasks : z.tasks = y.tasks.modify id Task.lifted) (hqueues : z.queues = y.queues)
    (hissued : z.issued = y.issued) (hmovers : z.movers = y.movers) (hbacklog : z.backlog = [])
    (hstalled : z.stalledDeps = [])
    (htold : ∀ d, t.loads = true → t.dep = some d → (z.departure d).state ≠ .stopping)
    (hwatch : (z.ended id t.level m.toNat).watch env y.toFloor = z.ended id t.level m.toNat) :
    answerTaskDone (oneLift id label m) env y =
        .done (oneLiftBytes id label t p true) (z.ended id t.level m.toNat) ∧
      y.EndedFrom (z.ended id t.level m.toNat) id t.level m.toNat := by
  refine ⟨?_, Yard.endedFrom_ended htasks hqueues hissued hmovers⟩
  have lifted : z.tasks.get id = some t.lifted := htasks ▸ (Tab.get_modify_same ..).trans (congrArg _ ht)
  have hend : z.endTask env id t false = z.ended id t.level m.toNat :=
    Yard.endTask_quiet (t' := t.lifted) lifted hmover hbacklog hstalled htold
  rw [answerTaskDone_oneLift hid hlabel h1 h24 hopen ht hmover hnext hp hkind (by omega), hlift, hend]
  simp [hrem, hwatch]

end

/-- Settles O40: each clause runs the lift of its task's kind; the last lift then ends the task. -/
theorem liftsMoveOnePallet : Obligations.LiftsMoveOnePallet := by
  intro s u tag m id label ref rest t p hid hlabel hu h1 h24 hopen ht hmover hnext hp hbacklog hstalled
  have first := answerTaskDone_firstLift (y := u.toRun.yard) (env := u.toRun.env) hid hlabel h1 h24 hopen ht hmover hnext hp
  have last {z : Yard} := answerTaskDone_lastLift (y := u.toRun.yard) (z := z) (env := u.toRun.env) hid hlabel h1 h24 hopen
    ht hmover hnext hp
  refine ⟨fun l d hkind hdst hl hrem hdep hstate hincoming => ?tip, fun n hkind hsrc hdst hrem => ?relocate,
    fun l d x hkind hsrc hl hdep hrem hstate hslot hx hlow => ?loadCut,
    fun l d x r hkind hsrc hl hdep hrem hr hstate hslot hx hothers hlow => ?loadLast⟩
  case tip =>
    have hlift := Yard.liftDone_tip (env := u.toRun.env) (y := u.toRun.yard) hkind hdst hl ht hp hdep
      (fun h => by cases hstate.symm.trans h) (fun h => by cases hstate.symm.trans h)
    have hocc : (u.floor.lane l).present.length + 1 + ((u.floor.lane l).incoming - 1) = u.floor.occupancy l := by
      simp only [Floor.occupancy, Lane.occupancy]; omega
    have answer := first (by simp [hkind]) hrem
    rw [hlift, Yard.watch_lane_kept rfl (by simpa [Lane.occupancy] using hocc)] at answer
    exact congrArg Host.Outcome.next (takeRequest_asYard hu answer)
  case relocate =>
    obtain ⟨answer, htask, htasks, hidle, hmovers, hqueue, hqueues, hissued⟩ :=
      last (by simp [hkind]) hrem (Yard.liftDone_relocate hkind hsrc hdst hp) rfl rfl rfl rfl hbacklog hstalled
        (fun d hloads => by simp [Task.loads, hkind] at hloads) (Yard.watch_lanes rfl)
    exact ⟨_, congrArg Host.Outcome.next (takeRequest_asYard hu answer), rfl, htask, htasks, hidle, hmovers, hqueue, hqueues,
      hissued, rfl⟩
  case loadCut =>
    have hlift : u.toRun.yard.liftDone u.toRun.env id t ref = u.toRun.yard.loaded id l d ref p x :=
      (Yard.liftDone_load hkind hsrc hl hdep hp hslot hx).trans
        (Yard.evaluate_of_state (y := u.toRun.yard.loaded ..) (fun h => by cases hstate.symm.trans h)
          (fun h => by cases hstate.symm.trans h))
    obtain ⟨answer, htask, htasks, hidle, hmovers, hqueue, hqueues, hissued⟩ :=
      last (by simp [hkind]) hrem hlift rfl rfl rfl rfl hbacklog hstalled
        (fun d' _ hd' h => by cases hdep.symm.trans hd'; cases hstate.symm.trans h)
        (Yard.watch_lane_left rfl (by exact hlow) (Lane.occupancy_filter_le ..))
    exact ⟨_, congrArg Host.Outcome.next (takeRequest_asYard hu answer), rfl, rfl, Tab.at_set_same .., fun k hk =>
      Tab.at_set_other _ _ _ hk, htask, htasks, hidle, hmovers, hqueue, hqueues, hissued, rfl⟩
  case loadLast =>
    obtain ⟨hslots, hall⟩ := Deck.allLoaded_shift hslot hx hothers
    have hdeck := Yard.loaded_deck u.toRun.yard id l d ref p x
    have hlift := (Yard.liftDone_load (env := u.toRun.env) (y := u.toRun.yard) hkind hsrc hl hdep hp hslot hx).trans
      ((Yard.evaluate_allLoaded (y := u.toRun.yard.loaded ..) rfl hr hstate (hdeck ▸ hslots) (hdeck ▸ hall)).trans
        (Yard.depNote_eq hdeck))
    have hloaded : (u.floor.departures.modify d fun r => { r with state := .loaded }).get d =
        some { r with state := .loaded } := (Tab.get_modify_same ..).trans (congrArg _ hr)
    obtain ⟨answer, htask, htasks, hidle, hmovers, hqueue, hqueues, hissued⟩ :=
      last (by simp [hkind]) hrem hlift rfl rfl rfl rfl hbacklog (Floor.stalledDeps_modify rfl (by simp) hstalled)
        (fun d' _ hd' h => by
          cases hdep.symm.trans hd'
          cases (congrArg Departure.state (Floor.departure_of_get hloaded)).symm.trans h)
        (Yard.watch_lane_left rfl (by exact hlow) (Lane.occupancy_filter_le ..))
    exact ⟨_, congrArg Host.Outcome.next (takeRequest_asYard hu answer), rfl, rfl, Tab.at_set_same .., fun k hk =>
      Tab.at_set_other _ _ _ hk, hloaded, fun k hk => Tab.get_modify_other _ _ hk, htask, htasks, hidle, hmovers, hqueue,
      hqueues, hissued, rfl⟩

end Sys2Proof.Machine

namespace Sys2Proof.Machine

/-! ## One departure's record is written -/

theorem cellPut_put {α : Type} (k : Nat) (a b : α) : ∀ cells : List (Nat × α),
    cellPut (cellPut cells k a) k b = cellPut cells k b
  | [] => by simp [cellPut]
  | (j, u) :: rest => by
    by_cases h1 : k < j
    · simp [cellPut, h1]
    · by_cases h2 : j = k
      · simp [cellPut, h2]
      · simp [cellPut, h1, h2, cellPut_put k a b rest]

/-- Of two writes under one number the later stands. -/
@[simp] theorem Tab.put_put {α : Type} (t : Tab α) (k : Nat) (a b : α) : (t.put k a).put k b = t.put k b :=
  congrArg Tab.mk (cellPut_put k a b t.cells)

@[simp] theorem Tab.modify_put {α : Type} (t : Tab α) (k : Nat) (a : α) (g : α → α) :
    (t.put k a).modify k g = t.put k (g a) := by simp [Tab.modify]

/-- The floor with the record `r` of departure `d`. -/
def Yard.putDep (y : Yard) (d : Nat) (r : Departure) : Yard := { y with departures := y.departures.put d r }

@[simp] theorem Yard.putDep_get (y : Yard) (d : Nat) (r : Departure) : (y.putDep d r).departures.get d = some r :=
  Tab.get_put_same ..

theorem Yard.putDep_get_other (y : Yard) {i d : Nat} (r : Departure) (h : i ≠ d) :
    (y.putDep d r).departures.get i = y.departures.get i := Tab.get_put_other _ _ h

@[simp] theorem Yard.putDep_departure (y : Yard) (d : Nat) (r : Departure) : (y.putDep d r).departure d = r :=
  Floor.departure_of_get (y.putDep_get d r)

@[simp] theorem Yard.putDep_deck (y : Yard) (d : Nat) (r : Departure) (k : Nat) : (y.putDep d r).deck k = y.deck k := rfl

/-- What a change of one departure's record writes. -/
theorem Yard.modDep_of_get {y : Yard} {d : Nat} {r : Departure} (g : Departure → Departure)
    (h : y.departures.get d = some r) : y.modDep d g = y.putDep d (g r) := by
  rw [Yard.modDep, Tab.modify_of_get g h]; rfl

@[simp] theorem Yard.modDep_putDep (y : Yard) (d : Nat) (r : Departure) (g : Departure → Departure) :
    (y.putDep d r).modDep d g = y.putDep d (g r) := by
  simp [Yard.modDep, Yard.putDep]

/-- A DEPARTURE NOTE of a departure with an empty deck map. -/
theorem Yard.depNote_blank {y : Yard} {env : Env} {d n : Nat} {e : DepartureEvent} (h : y.deck d = Deck.blank n) :
    y.depNote env d e = y.note env d (.departure e 0 0 0) := by
  simp [Yard.depNote, h, Deck.blank, Deck.k, Deck.b, kingpinLoad, bogieLoad]

/-- A request on a departure of the plan in an open night that its rule refuses. -/
theorem takeRequest_onDeparture_refused {kind tag c : Byte} {night : Bool}
    {g : Env → Yard → Nat → DepartureEntry → Answer Yard} {s u : State} {e : DepartureEntry} {code : RefusalCode}
    (hu : s.taken { kind := kind, tag := tag, body := [c] } = some u) (h1 : 1 ≤ c.toNat) (h48 : c.toNat ≤ 48)
    (hopen : u.clock.isOpen = true) (he : u.plan.active.departures.get c.toNat = some e)
    (hg : g u.toRun.env u.toRun.yard c.toNat e = .refused code) :
    takeRequest kind tag [c] (asYard fun env y => onDeparture [c] night env (g env y)) s = u.replyRefused kind tag code :=
  takeRequest_asYard_refused hu ((onDeparture_open (env := u.toRun.env) h1 h48 hopen he).trans hg)

end Sys2Proof.Machine

namespace Sys2Proof.Machine

/-! ## CALL NOW, R31, R32 -/

/-- The called record of a departure, R31. -/
def Departure.called (r : Departure) (minute : Nat) : Departure := { r with callMark := true, calledMinute := some minute }

/-- A call whose claim is refused, R31, R33: the departure waits at the tail of the list. -/
theorem Yard.call_waits {y : Yard} {env : Env} {d : Nat} {e : DepartureEntry} {r : Departure} {reason : DeferReason}
    (he : env.depEntry d = some e) (hr : y.departures.get d = some r) (hc : y.claimRefused env e.door = some reason) :
    y.call env d =
      ({ y with waiting := y.waiting ++ [d] }.putDep d { r.called env.minute with state := .waitingDoor }).depNote env d
        (.deferred reason) := by
  have hz := Yard.modDep_of_get (fun r => r.called env.minute) hr
  have hc' : (y.putDep d (r.called env.minute)).claimRefused env e.door = some reason := hc
  unfold Departure.called at hz hc' ⊢
  simp only [Yard.call, he, hz, hc']
  simp only [Yard.modDep, Yard.putDep, Tab.modify_put]

/-- A call whose claim is met, R31: the departure takes its door and loads. -/
theorem Yard.call_takes {y : Yard} {env : Env} {d : Nat} {e : DepartureEntry} {r : Departure}
    (he : env.depEntry d = some e) (hr : y.departures.get d = some r) (hc : y.claimRefused env e.door = none) :
    y.call env d =
      (({ y with
        waiting := y.waiting.filter (· ≠ d)
        doors := y.doors.set Door.reset e.door { y.door e.door with underlying := .occupied d } }.putDep d
          { r.called env.minute with state := .loading, doorTaken := true }).depNote env d
          (.called env.minute)).evaluate env d := by
  have hz := Yard.modDep_of_get (fun r => r.called env.minute) hr
  have hc' : (y.putDep d (r.called env.minute)).claimRefused env e.door = none := hc
  unfold Departure.called at hz hc' ⊢
  simp only [Yard.call, he, hz, hc', Yard.takeDoor, Yard.putDep_departure, Option.getD_some]
  simp only [Yard.modDep, Yard.putDep, Yard.setDoor, Tab.modify_put]
  rfl

theorem Floor.claimRefused_faulted {f : Floor} {env : Env} {n : Nat} (hrole : (env.plan.doorEntry n).role = .outbound)
    (hfault : (f.door n).faulted = true) : f.claimRefused env n = some .faulted := by
  simp [Floor.claimRefused, hrole, hfault]

theorem Floor.claimRefused_free {f : Floor} {env : Env} {n : Nat} (hrole : (env.plan.doorEntry n).role = .outbound)
    (hfault : (f.door n).faulted = false) (hfree : (f.door n).underlying = .outboundFree) :
    f.claimRefused env n = none := by
  simp [Floor.claimRefused, hrole, hfault, hfree]

/-- CALL NOW of a PLANNED departure, R32, after which its record is `q`. -/
theorem answerCallNow_planned {c : Byte} {env : Env} {y z : Yard} {e : DepartureEntry} {r q : Departure}
    (h1 : 1 ≤ c.toNat) (h48 : c.toNat ≤ 48) (hopen : env.isOpen = true) (he : env.depEntry c.toNat = some e)
    (hr : y.departures.get c.toNat = some r) (hst : r.state = .planned) (hcall : y.call env c.toNat = z)
    (hq : z.departures.get c.toNat = some q) :
    answerCallNow [c] env y = .done (le8 q.state.code ++ minute16 q.calledMinute) z := by
  refine (onDeparture_open h1 h48 hopen he).trans ?_
  simp [Floor.departure_of_get hr, hst, hcall, Floor.departure_of_get hq]

/-- Settles O46. -/
theorem callTakesTheDoorOrWaits : Obligations.CallTakesTheDoorOrWaits := by
  intro s u tag c e r hu h1 h48 hopen hplan hr
  have he : u.toRun.env.depEntry c.toNat = some e := hplan
  have answer {z q} hst := answerCallNow_planned (y := u.toRun.yard) (z := z) (q := q) h1 h48 hopen he hr hst
  refine ⟨fun hst => ?refused, fun hst hrole => ⟨fun hfault => ?waits, fun n hfault hfree hdeck => ?takes⟩⟩
  case refused =>
    refine congrArg Host.Outcome.next (takeRequest_onDeparture_refused hu h1 h48 hopen hplan (if_pos ?_))
    rwa [Floor.departure_of_get (by exact hr)]
  case waits =>
    have hcall := Yard.call_waits (y := u.toRun.yard) he hr (Floor.claimRefused_faulted hrole hfault)
    exact ⟨_, congrArg Host.Outcome.next (takeRequest_asYard hu (answer hst hcall (Yard.putDep_get ..))),
      Yard.putDep_get .., fun k hk => Yard.putDep_get_other _ _ hk, rfl, rfl⟩
  case takes =>
    have hcall := Yard.call_takes (y := u.toRun.yard) he hr (Floor.claimRefused_free hrole hfault hfree)
    rw [Yard.depNote_blank hdeck, Yard.evaluate_of_emptyDeck (n := n) ?loading hdeck] at hcall
    case loading => exact congrArg Departure.state (Yard.putDep_departure ..)
    exact ⟨_, congrArg Host.Outcome.next (takeRequest_asYard hu (answer hst hcall (Yard.putDep_get ..))),
      Yard.putDep_get .., fun k hk => Yard.putDep_get_other _ _ hk, congrArg Door.underlying (Tab.at_set_same ..), fun k hk =>
      Tab.at_set_other _ _ _ hk, rfl, rfl⟩

end Sys2Proof.Machine

namespace Sys2Proof.Machine

/-! ## ABORT LOAD and RESUME LOAD, R45, R46 -/

/-- ABORT LOAD with no release to withdraw: the departure is STOPPING, and its end is judged at once, R45. -/
theorem answerAbortLoad_noRelease {c : Byte} {env : Env} {y z : Yard} {e : DepartureEntry} {r q : Departure}
    (h1 : 1 ≤ c.toNat) (h48 : c.toNat ≤ 48) (hopen : env.isOpen = true) (he : env.depEntry c.toNat = some e)
    (hr : y.departures.get c.toNat = some r) (hst : r.state = .loading ∨ r.state = .loaded)
    (hnone : y.unissued c.toNat = [])
    (hstop : (y.putDep c.toNat { r with stalled := false, state := .stopping }).stopTest env c.toNat = z)
    (hq : z.departures.get c.toNat = some q) :
    answerAbortLoad [c] env y = .done ([0#8] ++ le8 q.state.code) z := by
  have hstate : ¬(r.state ≠ .loading ∧ r.state ≠ .loaded) := by tauto
  refine (onDeparture_open h1 h48 hopen he).trans ?_
  rw [Floor.departure_of_get hr, if_neg hstate]
  simp only [hnone, List.foldl_nil, Yard.modDep_of_get _ hr, Yard.modDep_putDep, hstop, Floor.departure_of_get hq]
  rfl

/-- RESUME LOAD with an empty deck releases nothing, R46. -/
theorem answerResumeLoad_blank {c : Byte} {env : Env} {y : Yard} {e : DepartureEntry} {r : Departure} {n : Nat}
    (h1 : 1 ≤ c.toNat) (h48 : c.toNat ≤ 48) (hopen : env.isOpen = true) (he : env.depEntry c.toNat = some e)
    (hr : y.departures.get c.toNat = some r) (hst : r.state = .stopped) (hdeck : y.deck c.toNat = Deck.blank n) :
    answerResumeLoad [c] env y = .done [3#8, 0#8] (y.putDep c.toNat { r with state := .loading }) := by
  have heval : (y.putDep c.toNat { r with state := .loading }).evaluate env c.toNat =
      y.putDep c.toNat { r with state := .loading } :=
    Yard.evaluate_of_emptyDeck (congrArg Departure.state (Yard.putDep_departure ..)) hdeck
  refine (onDeparture_open h1 h48 hopen he).trans ?_
  rw [Floor.departure_of_get hr, if_neg (by simp [hst])]
  simp [Yard.modDep_of_get _ hr, heval, le8, byteOf, DepState.code]

/-- Settles O49. -/
theorem abortAndResumeStopAndGoOn : Obligations.AbortAndResumeStopAndGoOn := by
  intro s u tag c e r h1 h48 hopen hplan hr
  have he : u.toRun.env.depEntry c.toNat = some e := hplan
  refine ⟨fun hu => ⟨fun h2 h3 => ?abortRefused, fun hst hnone => ?abort⟩, fun hu => ⟨fun hst => ?resumeRefused,
    fun n hst hdeck => ?resumed⟩⟩
  case abortRefused =>
    refine congrArg Host.Outcome.next (takeRequest_onDeparture_refused hu h1 h48 hopen hplan (if_pos ?_))
    rw [Floor.departure_of_get (by exact hr)]
    exact ⟨h2, h3⟩
  case abort =>
    have answer {z q} := answerAbortLoad_noRelease (y := u.toRun.yard) (z := z) (q := q) h1 h48 hopen he hr hst hnone
    refine ⟨fun hissued => ?stopped, fun hissued => ?stopping⟩
    case stopped =>
      have hstop := Yard.stopTest_of_last (env := u.toRun.env) (congrArg Departure.state (Yard.putDep_departure u.toRun.yard
        c.toNat { r with stalled := false, state := .stopping })) hissued
      rw [Yard.modDep_putDep] at hstop
      exact ⟨_, congrArg Host.Outcome.next (takeRequest_asYard hu (answer hstop (Yard.putDep_get ..))), Yard.putDep_get ..,
        fun k hk => Yard.putDep_get_other _ _ hk, rfl⟩
    case stopping =>
      exact ⟨_, congrArg Host.Outcome.next (takeRequest_asYard hu (answer (if_neg fun h => hissued h.2)
        (Yard.putDep_get ..))), Yard.putDep_get .., fun k hk => Yard.putDep_get_other _ _ hk, rfl⟩
  case resumeRefused =>
    refine congrArg Host.Outcome.next (takeRequest_onDeparture_refused hu h1 h48 hopen hplan (if_pos ?_))
    rwa [Floor.departure_of_get (by exact hr)]
  case resumed =>
    exact congrArg Host.Outcome.next (takeRequest_asYard hu (answerResumeLoad_blank h1 h48 hopen he hr hst hdeck))

end Sys2Proof.Machine

namespace Sys2Proof.Machine

/-! ## Release of one entry, R34 to R36 -/

/-- A LOAD task is made for a pallet that stands in a lane, R36. -/
theorem Floor.loadTask_lane {f : Floor} {d l : Nat} {x : Slot} {p : Pallet} (hp : f.pallets.get x.entry.ref = some p)
    (hloc : p.loc = some (.floor l)) :
    f.loadTask d x =
      some (newTask .load (f.departure d).loadLevel (.floor l) (.trailer d x.pos x.tier) [x.entry.ref] 1 (some d)) := by
  simp [Floor.loadTask, Floor.pallet_of_get hp, hloc]

theorem Floor.present_inLane {f : Floor} {ref : Nat} {p : Pallet} (hp : f.pallets.get ref = some p)
    (hst : p.state = .inLane) : f.present ref = true := by
  simp [Floor.present, Floor.pallet_of_get hp, hst]

/-- The floor after the entry `x` has been released with the task `t`, R36. -/
def Yard.released (y : Yard) (d : Nat) (x : Slot) (t : Task) : Yard :=
  { y with
    decks := y.decks.put d ((y.deck d).shift x.entry.ref .planned .released)
    tasks := y.tasks.put y.allocId t
    nextId := idAfter y.allocId
    queues := y.queues.set [] t.level (y.queue t.level ++ [y.allocId]) }

@[simp] theorem Yard.released_deck (y : Yard) (d : Nat) (x : Slot) (t : Task) :
    (y.released d x t).deck d = (y.deck d).shift x.entry.ref .planned .released := by simp [Yard.released, Floor.deck]

theorem Yard.releaseEntry_room {y : Yard} {d : Nat} {x : Slot} {t : Task} (ht : y.loadTask d x = some t)
    (hroom : y.poolFull = false) : y.releaseEntry d x = some (y.released d x t) := by
  simp [Yard.releaseEntry, ht, Yard.createTask, hroom]
  rfl

theorem Yard.releaseEntry_full {y : Yard} {d : Nat} {x : Slot} (hfull : y.poolFull = true) : y.releaseEntry d x = none := by
  unfold Yard.releaseEntry Yard.createTask
  split <;> simp [hfull]

/-- The walk ends once as many entries are RELEASED as the batch allows, R35. -/
theorem releaseWalk_full {d batch : Nat} {y : Yard} (h : batch ≤ (y.deck d).countOf .released) :
    ∀ l : List Slot, releaseWalk d batch l y = y
  | [] => rfl
  | x :: rest => by
    unfold releaseWalk
    split
    · exact releaseWalk_full h rest
    · exact releaseWalk_full h rest
    · rw [if_neg (by simp [Nat.not_lt.mpr h])]

section

variable {y : Yard} {d batch : Nat} {x : Slot} (rest : List Slot) (hst : x.entry.status = .planned)
  (hpresent : y.present x.entry.ref = true) (hcount : (y.deck d).countOf .released < batch)

include hst hpresent hcount

/-- The walk releases a PLANNED entry whose pallet is present and goes on, R35. -/
theorem releaseWalk_some {z : Yard} (hz : y.releaseEntry d x = some z) :
    releaseWalk d batch (x :: rest) y = releaseWalk d batch rest z := by
  simp [releaseWalk, hst, hpresent, hcount, hz]

/-- The walk ends with the departure stalled where such an entry finds the pool full, R36. -/
theorem releaseWalk_none (hz : y.releaseEntry d x = none) :
    releaseWalk d batch (x :: rest) y = y.modDep d fun r => { r with stalled := true } := by
  simp [releaseWalk, hst, hpresent, hcount, hz]

end

/-- The PLANNED entry of a map is RELEASED by its release, R7. -/
theorem Deck.released_mem {dk : Deck} {x : Slot} (hx : x ∈ dk.slots) (hst : x.entry.status = .planned) :
    ∃ z ∈ (dk.shift x.entry.ref .planned .released).slots, z.entry.status = .released := by
  refine ⟨x.shift x.entry.ref .planned .released, ?_, by simp [Slot.shift, Entry.shift, hst]⟩
  rw [Deck.slots_shift]
  exact List.mem_map_of_mem hx

theorem Deck.countOf_pos {dk : Deck} {st : LoadStatus} {x : Slot} (hx : x ∈ dk.slots) (hst : x.entry.status = st) :
    1 ≤ dk.countOf st :=
  List.length_pos_of_mem (List.mem_filter.mpr ⟨hx, by simp [hst]⟩)

/-- A map with an entry that is not LOADED does not make a departure LOADED, R38. -/
theorem Deck.allLoaded_false {dk : Deck} {x : Slot} (hx : x ∈ dk.slots) (hst : x.entry.status ≠ .loaded) :
    dk.allLoaded = false := by
  by_contra h
  simp only [Deck.allLoaded, Bool.not_eq_false, Bool.and_eq_true, List.all_eq_true] at h
  exact hst (by simpa using h.2 x hx)

/-- A notice to a LOADING departure whose deck has an entry not LOADED is the release alone, R37, R38, R45. -/
theorem Yard.evaluate_loading {y z : Yard} {env : Env} {d : Nat} {e : DepartureEntry} {x : Slot}
    (hmute : env.mute.contains d = false) (he : env.depEntry d = some e) (hst : (y.departure d).state = .loading)
    (hhold : (y.departure d).hold = false) (hwalk : releaseWalk d e.batch (y.deck d).slots y = z)
    (hz : (z.departure d).state = .loading) (hx : x ∈ (z.deck d).slots) (hxst : x.entry.status ≠ .loaded) :
    y.evaluate env d = z := by
  have hrelease : y.release env d = z := by simp [Yard.release, he, hst, hhold, hwalk]
  have hloaded : z.loadedTest env d = z := by simp [Yard.loadedTest, Deck.allLoaded_false hx hxst]
  unfold Yard.evaluate
  rw [hmute, if_neg (by simp), hrelease, hloaded, Yard.stopTest_of_state (by simp [hz])]

section

variable {y : Yard} {env : Env} {d : Nat} {e : DepartureEntry} {x : Slot} {rest : List Slot}
  (hmute : env.mute.contains d = false) (he : env.depEntry d = some e) (hst : (y.departure d).state = .loading)
  (hhold : (y.departure d).hold = false) (hslots : (y.deck d).slots = x :: rest) (hx : x.entry.status = .planned)
  (hpresent : y.present x.entry.ref = true) (hcount : (y.deck d).countOf .released = 0) (hbatch : 1 ≤ e.batch)

include hmute he hst hhold hslots hx hpresent hcount hbatch

/-- The head alone is released where the batch allows one or the map holds no more, R35, R36. -/
theorem Yard.evaluate_releasesHead {t : Task} (hone : e.batch = 1 ∨ rest = []) (ht : y.loadTask d x = some t)
    (hroom : y.poolFull = false) : y.evaluate env d = y.released d x t := by
  have hmem : x ∈ (y.deck d).slots := hslots ▸ List.mem_cons_self
  obtain ⟨z, hz, hzst⟩ := Deck.released_mem hmem hx
  rw [← Yard.released_deck y d x t] at hz
  refine Yard.evaluate_loading hmute he hst hhold ?_ hst hz (by simp [hzst])
  rw [hslots, releaseWalk_some rest hx hpresent (by omega) (Yard.releaseEntry_room ht hroom)]
  rcases hone with hone | rfl
  · exact releaseWalk_full (by rw [hone]; exact Deck.countOf_pos hz hzst) rest
  · rfl

/-- With the pool full the departure is stalled, R36. -/
theorem Yard.evaluate_stalls {r : Departure} (hr : y.departures.get d = some r) (hfull : y.poolFull = true) :
    y.evaluate env d = y.putDep d { r with stalled := true } := by
  have hmem : x ∈ (y.deck d).slots := hslots ▸ List.mem_cons_self
  refine Yard.evaluate_loading hmute he hst hhold ?_ ?_ hmem (by simp [hx])
  · rw [hslots, releaseWalk_none rest hx hpresent (by omega) (Yard.releaseEntry_full hfull)]
    exact Yard.modDep_of_get _ hr
  · rw [Floor.departure_of_get hr] at hst
    simpa using hst

end

/-! ## HOLD LOAD and FREE LOAD, R43, R44 -/

/-- FREE LOAD, R44: a departure that was held is evaluated. -/
theorem answerFreeLoad_open {c : Byte} {env : Env} {y : Yard} {e : DepartureEntry} {r : Departure}
    (h1 : 1 ≤ c.toNat) (h48 : c.toNat ≤ 48) (hopen : env.isOpen = true) (he : env.depEntry c.toNat = some e)
    (hr : y.departures.get c.toNat = some r) (hst : r.state ≠ .closed) :
    answerFreeLoad [c] env y =
      .done (flag8 r.hold)
        (if r.hold then (y.putDep c.toNat { r with hold := false }).evaluate env c.toNat
        else y.putDep c.toNat { r with hold := false }) := by
  refine (onDeparture_open h1 h48 hopen he).trans ?_
  rw [Floor.departure_of_get hr, if_neg hst, Yard.modDep_of_get _ hr]

/-- Settles O48: FREE LOAD's evaluation does nothing with an empty deck, and releases or stalls at the head otherwise. -/
theorem holdAndFreeSetTheHoldFlag : Obligations.HoldAndFreeSetTheHoldFlag := by
  intro s u tag c e r h1 h48 hopen hplan hr
  have he : u.toRun.env.depEntry c.toNat = some e := hplan
  have hrecord : u.toRun.yard.departure c.toNat = r := Floor.departure_of_get hr
  have free hst := answerFreeLoad_open (y := u.toRun.yard) (env := u.toRun.env) h1 h48 hopen he hr hst
  have hfreed := Yard.putDep_departure u.toRun.yard c.toNat { r with hold := false }
  refine ⟨fun hu => ⟨fun hst => ?holdRefused, fun hst => ?held⟩, fun hu => ⟨fun hst => ?freeRefused,
    fun n hst hstop hdeck => ?empty, fun x rest p l level hst hhold hslots hx hcount hbatch hone hp hpst hloc hlevel => ?head⟩⟩
  case holdRefused =>
    exact congrArg Host.Outcome.next (takeRequest_onDeparture_refused hu h1 h48 hopen hplan (if_pos (by rwa [hrecord])))
  case held =>
    have answer : answerHoldLoad [c] u.toRun.env u.toRun.yard =
        .done (flag8 r.hold) (u.toRun.yard.putDep c.toNat { r with hold := true }) := by
      refine (onDeparture_open h1 h48 hopen he).trans ?_
      rw [hrecord, if_neg hst, Yard.modDep_of_get _ hr]
    exact congrArg Host.Outcome.next (takeRequest_asYard hu answer)
  case freeRefused =>
    exact congrArg Host.Outcome.next (takeRequest_onDeparture_refused hu h1 h48 hopen hplan (if_pos (by rwa [hrecord])))
  case empty =>
    have heval : (u.toRun.yard.putDep c.toNat { r with hold := false }).evaluate u.toRun.env c.toNat =
        u.toRun.yard.putDep c.toNat { r with hold := false } := by
      by_cases hload : r.state = .loading
      · exact Yard.evaluate_of_emptyDeck ((congrArg Departure.state hfreed).trans hload) hdeck
      · exact Yard.evaluate_of_state (by rwa [hfreed]) (by rwa [hfreed])
    have answer := free hst
    rw [heval, ite_self] at answer
    exact congrArg Host.Outcome.next (takeRequest_asYard hu answer)
  case head =>
    have answer := free (by simp [hst])
    rw [if_pos hhold] at answer
    have hpresent : (u.toRun.yard.putDep c.toNat { r with hold := false }).present x.entry.ref = true :=
      Floor.present_inLane hp hpst
    have hload : ((u.toRun.yard.putDep c.toNat { r with hold := false }).departure c.toNat).state = .loading := by
      rw [hfreed, hst]
    have hfree : ((u.toRun.yard.putDep c.toNat { r with hold := false }).departure c.toNat).hold = false := by rw [hfreed]
    refine ⟨fun hroom => ?_, fun hfull => ?_⟩
    · have htask := Floor.loadTask_lane (f := (u.toRun.yard.putDep c.toNat { r with hold := false }).toFloor) (d := c.toNat)
        hp hloc
      rw [hfreed, show ({ r with hold := false } : Departure).loadLevel = level from hlevel.symm] at htask
      rw [Yard.evaluate_releasesHead rfl he hload hfree hslots hx hpresent hcount hbatch hone htask
        (by exact decide_eq_false (Nat.not_le.mpr hroom))] at answer
      exact congrArg Host.Outcome.next (takeRequest_asYard hu answer)
    · rw [Yard.evaluate_stalls rfl he hload hfree hslots hx hpresent hcount hbatch (Yard.putDep_get ..)
        (by exact decide_eq_true hfull)] at answer
      refine ⟨_, congrArg Host.Outcome.next (takeRequest_asYard hu answer), Yard.putDep_get .., fun k hk => ?_, rfl⟩
      exact (Yard.putDep_get_other _ _ hk).trans (Yard.putDep_get_other _ _ hk)

end Sys2Proof.Machine

namespace Sys2Proof.Machine

/-! ## Requests that only read, R180, R52, R76, R89, R115, R128, R151 -/

theorem length_le8 (n : Nat) : (le8 n).length = 1 := rfl
theorem length_le16 (n : Nat) : (le16 n).length = 2 := rfl
theorem length_flag8 (b : Bool) : (flag8 b).length = 1 := rfl
theorem Floor.length_levelCounts (f : Floor) (level : Nat) : (f.levelCounts level).length = 4 := rfl

/-- The summary has 70 bytes, R180. -/
theorem State.length_statusBytes (s : State) : s.statusBytes.length = 70 := by
  unfold State.statusBytes
  simp only [List.length_append, List.length_flatMap, length_le8, length_le16, length_flag8, Floor.length_levelCounts,
    List.map_const', List.length_range, List.sum_replicate]
  simp [depStates]

/-- The summary begins with night state, minute, wave number, end reached and the number of records, R180. -/
theorem State.statusBytes_begin (s : State) :
    ∃ rest, s.statusBytes = (flag8 s.clock.isOpen ++ le16 s.clock.minute ++ le16 s.clock.wave ++
      flag8 s.clock.endReached ++ le16 s.floor.pallets.size) ++ rest := by
  unfold State.statusBytes
  simp only [List.append_assoc]
  exact ⟨_, rfl⟩

/-- A request that its rule takes and that leaves the floor as it is. -/
theorem takeRequest_reads {kind tag : Byte} {body : List Byte} {g : Env → Yard → Answer Yard} {s u : State}
    {result : List Byte} (h : s.taken { kind := kind, tag := tag, body := body } = some u)
    (hy : g u.toRun.env u.toRun.yard = .done result u.toRun.yard) :
    takeRequest kind tag body (asYard g) s = u.replyDone kind tag result :=
  takeRequest_asYard h hy

/-- A read request on a departure of the plan, in an open night or not. -/
theorem onDeparture_known {c : Byte} {env : Env} {e : DepartureEntry} {k : Nat → DepartureEntry → Answer Yard}
    (h1 : 1 ≤ c.toNat) (h48 : c.toNat ≤ 48) (he : env.depEntry c.toNat = some e) :
    onDeparture [c] false env k = k c.toNat e := by
  rw [onDeparture, numbered_in h1 h48, he]
  simp

theorem answerGetPallet_live {body : List Byte} {env : Env} {y : Yard} {ref : Nat} (hlen : body.length = 4)
    (href : y.refOf (u32 body 0) = some ref) :
    ∃ result, answerGetPallet body env y = .done result y ∧ result.take 4 = le32 (y.pallet ref).label := by
  simp only [answerGetPallet, hlen, labelled, href]
  exact ⟨_, rfl, rfl⟩

theorem answerGetTask_pooled {body : List Byte} {env : Env} {y : Yard} {t : Task} (hlen : body.length = 2)
    (ht : y.tasks.get (u16 body 0) = some t) :
    ∃ result, answerGetTask body env y = .done result y ∧
      result.take 4 = le16 (u16 body 0) ++ le8 t.kind.code ++ le8 t.level := by
  simp only [answerGetTask, hlen, ht]
  exact ⟨_, rfl, by simp [le16, le8]⟩

theorem answerGetDeparture_known {c : Byte} {env : Env} {y : Yard} {e : DepartureEntry} (h1 : 1 ≤ c.toNat)
    (h48 : c.toNat ≤ 48) (he : env.depEntry c.toNat = some e) :
    ∃ result, answerGetDeparture [c] env y = .done result y ∧
      result.take 1 = le8 (y.departure c.toNat).state.code :=
  ⟨_, onDeparture_known h1 h48 he, by simp [le8]⟩

/-- Settles O24. -/
theorem statusAndGetRequestsOnlyRead : Obligations.StatusAndGetRequestsOnlyRead := by
  refine ⟨fun s u tag body hu => ⟨fun hbody => ?status, fun hbody => ?format, u.length_statusBytes, ?head⟩,
    fun s u tag => ⟨fun kind n hu hkind hn => ?plan, fun body ref hu hlen href => ?pallet, fun body t hu hlen ht => ?task,
      fun d hu h1 h48 hd => ?departure, fun n hu h1 h32 => ?door, fun l hu h2 h65 hl => ?lane⟩⟩
  case status =>
    exact congrArg Host.Outcome.next (takeRequest_done hu (if_neg (by simp [hbody])))
  case format =>
    exact congrArg Host.Outcome.next (takeRequest_refused hu (if_pos (by simpa using hbody)))
  case head =>
    obtain ⟨rest, hbytes⟩ := u.statusBytes_begin
    rw [hbytes]
    rfl
  case plan =>
    subst hkind hn
    exact ⟨_, congrArg Host.Outcome.next (takeRequest_asRun hu (r := u.toRun) rfl), rfl⟩
  case pallet =>
    obtain ⟨result, answer, htake⟩ := answerGetPallet_live (env := u.toRun.env) (y := u.toRun.yard) hlen href
    exact ⟨result, congrArg Host.Outcome.next (takeRequest_reads hu answer), htake⟩
  case task =>
    obtain ⟨result, answer, htake⟩ := answerGetTask_pooled (env := u.toRun.env) (y := u.toRun.yard) hlen ht
    exact ⟨result, congrArg Host.Outcome.next (takeRequest_reads hu answer), htake⟩
  case departure =>
    obtain ⟨e, he⟩ := Option.isSome_iff_exists.mp hd
    obtain ⟨result, answer, htake⟩ := answerGetDeparture_known (env := u.toRun.env) (y := u.toRun.yard) h1 h48 he
    exact ⟨result, congrArg Host.Outcome.next (takeRequest_reads hu answer), htake⟩
  case door =>
    exact ⟨_, congrArg Host.Outcome.next (takeRequest_reads hu (numbered_in h1 h32)), rfl⟩
  case lane =>
    exact ⟨_, congrArg Host.Outcome.next (takeRequest_reads (g := answerGetLane [l]) hu
      ((numbered_in h2 h65).trans (if_pos hl))), rfl⟩

end Sys2Proof.Machine

namespace Sys2Proof.Machine

/-! ## The time base, R153, R154 -/

theorem State.timed_settled (s : State) (g : Run → Run) : s.settled.timed g = s.timed g := by
  simp only [State.timed, State.settled_of_clear s.settled_work]

theorem State.timed_runs {s : State} (g : Run → Run) (hwork : s.work = .clear) (hopen : s.clock.isOpen = true)
    (hend : s.clock.endReached = false) : s.timed g = s.onRun g := by
  simp [State.timed, State.settled_of_clear hwork, Clock.runs, hopen, hend]

/-- A stopped clock stands, R153. -/
theorem State.timed_stands {s : State} (g : Run → Run) (hwork : s.work = .clear)
    (hstop : s.clock.isOpen = false ∨ s.clock.endReached = true) : s.timed g = s := by
  have hruns : s.clock.runs = false := by rcases hstop with h | h <;> simp [Clock.runs, h]
  simp [State.timed, State.settled_of_clear hwork, hruns]

theorem Run.second_counts {r : Run} (h : r.clock.second < 59) :
    r.second = { r with clock := { r.clock with second := r.clock.second + 1 } } := if_pos h

theorem Run.second_ticks {r : Run} (h : 59 ≤ r.clock.second) : r.second = r.tick := if_neg (Nat.not_lt.mpr h)

/-! ## The items that have something to do -/

theorem Run.mem_liveItems {r : Run} {items : List WorkItem} {i : WorkItem} :
    i ∈ r.liveItems items ↔ i ∈ items ∧ r.itemLive items i = true := List.mem_filter

/-- Departure control has something to do where some departure has a due event, R29. -/
theorem Run.firstDue_isSome {r : Run} :
    r.firstDue.isSome = true ↔ ∃ d ∈ r.plan.active.departures.keys, r.yard.nextDue r.env d ≠ none := by
  simp [Run.firstDue, List.findSome?_isSome_iff, Option.ne_none_iff_isSome]

/-- The doors have something to do where some changeover's end has come, R123. -/
theorem Floor.doorsDue_ne_nil {f : Floor} {minute : Nat} :
    (!(f.doorsDue minute).isEmpty) = true ↔ ∃ n ∈ f.doors.keys, f.changeoverDue minute n = true := by
  simp [Floor.doorsDue]

/-- The tasks whose time limit has run out, R110. -/
theorem Floor.mem_expired {f : Floor} {env : Env} {id : Nat} :
    id ∈ f.expired env ↔ id ∈ f.issued ∧
      ∃ t m, f.tasks.get id = some t ∧ t.issueMinute = some m ∧ m + env.plan.night.taskLimit ≤ env.minute := by
  unfold Floor.expired
  rw [List.mem_filter]
  refine and_congr_right fun _ => ?_
  cases ht : f.tasks.get id with
  | none => simp
  | some t => cases hm : t.issueMinute <;> simp [hm]

/-- Settles O16. -/
theorem ticksAndSecondsMoveTheClock : Obligations.TicksAndSecondsMoveTheClock := by
  refine ⟨fun s r items hwork hr hitems => ⟨fun hopen hend => ⟨?tick, fun hsec => ?counts, fun hsec => ?secondTicks⟩,
    fun hstop => ⟨?tickStands, ?secondStands⟩⟩, fun r items ids since => ⟨?departures, ?expiry, ?doors, fun hsync => ?wave,
    ?endOfClock⟩, fun f env id => Floor.mem_expired, fun s => ⟨?tickSettles, ?secondSettles, s.settled_work⟩⟩
  case tick =>
    subst hr hitems
    exact congrArg Host.Outcome.next (State.timed_runs _ hwork hopen hend)
  case counts =>
    refine congrArg Host.Outcome.next ((State.timed_runs _ hwork hopen hend).trans ?_)
    rw [State.onRun, Run.second_counts (by exact hsec)]
    rfl
  case secondTicks =>
    have hsecond : s.timed Run.second = s.onRun Run.tick :=
      (State.timed_runs _ hwork hopen hend).trans (congrArg s.absorb (Run.second_ticks (by exact hsec)))
    exact ⟨congrArg Host.Outcome.next hsecond,
      congrArg Host.Outcome.next ((State.timed_runs _ hwork hopen hend).trans hsecond.symm)⟩
  case tickStands => exact congrArg Host.Outcome.next (State.timed_stands _ hwork hstop)
  case secondStands => exact congrArg Host.Outcome.next (State.timed_stands _ hwork hstop)
  case departures => exact Run.mem_liveItems.trans (and_congr_right fun _ => Run.firstDue_isSome)
  case expiry => exact Run.mem_liveItems.trans (and_congr_right fun _ => by simp [Run.itemLive])
  case doors => exact Run.mem_liveItems.trans (and_congr_right fun _ => Floor.doorsDue_ne_nil)
  case wave =>
    refine Run.mem_liveItems.trans (and_congr_right fun _ => ?_)
    simp [Run.itemLive, hsync, Option.isSome_iff_exists]
  case endOfClock => exact Run.mem_liveItems.trans (and_iff_left rfl)
  case tickSettles => exact congrArg Host.Outcome.next (State.timed_settled s _).symm
  case secondSettles => exact congrArg Host.Outcome.next (State.timed_settled s _).symm

end Sys2Proof.Machine

namespace Sys2Proof.Machine

/-! ## A cut-off that finds nothing to remove, R47 -/

/-- The record of a departure that is cut off with `n` entries removed, R47. -/
def Departure.cutWith (r : Departure) (n : Nat) : Departure :=
  { r with callMark := true, marginMark := true, cutMark := true, stalled := false, removedAtCut := n, state := .cut }

/-- The floor on which the removals of a cut-off begin, R47 step 1. -/
def Yard.cutMarked (y : Yard) (d : Nat) (r : Departure) : Yard :=
  { y with waiting := y.waiting.filter (· ≠ d) }.putDep d
    { r with callMark := true, marginMark := true, cutMark := true, stalled := false }

theorem Floor.cutList_of_noSlots {f : Floor} {d : Nat} (h : (f.deck d).slots = []) : f.cutList d = [] := by
  simp [Floor.cutList, h]

/-- A cut-off by its list of removals, R47. -/
theorem Yard.cutOff_eq {y : Yard} {env : Env} {d : Nat} {r : Departure} {refs : List Nat} (hr : y.departures.get d = some r)
    (hrefs : (y.cutMarked d r).cutList d = refs) :
    y.cutOff env d =
      let z := refs.foldl (fun z ref => (z.removeEntry (env.muting d) .cut ref).2) (y.cutMarked d r)
      let c := rerouteAll (env.muting d) d refs z
      ({ removed := refs.length, rerouted := c.1 },
        (c.2.modDep d fun q => { q with removedAtCut := refs.length, state := .cut }).depNote env d (.cut refs.length)) := by
  have hmark : ({ y with waiting := y.waiting.filter (· ≠ d) } : Yard).modDep d (fun r =>
      { r with callMark := true, marginMark := true, cutMark := true, stalled := false }) = y.cutMarked d r :=
    Yard.modDep_of_get _ hr
  subst hrefs
  simp only [Yard.cutOff, hmark]

/-- The cut-off of a departure with an empty deck: its record, its place in the waiting list and its note, R47. -/
theorem Yard.cutOff_blank {y : Yard} {env : Env} {d n : Nat} {r : Departure} (hr : y.departures.get d = some r)
    (hdeck : y.deck d = Deck.blank n) :
    y.cutOff env d = ({ removed := 0, rerouted := 0 },
      ({ y with waiting := y.waiting.filter (· ≠ d) }.putDep d (r.cutWith 0)).note env d (.departure (.cut 0) 0 0 0)) := by
  have hslots : ((y.cutMarked d r).deck d).slots = [] := (congrArg Deck.slots hdeck).trans (Deck.slots_blank n)
  rw [Yard.cutOff_eq hr (Floor.cutList_of_noSlots hslots)]
  refine congrArg (Prod.mk _) ?_
  simp only [List.foldl_nil, rerouteAll, Yard.cutMarked, Yard.modDep_putDep]
  exact Yard.depNote_blank hdeck

/-! ## The timed events, R29, R31, R41, R47 -/

/-- A due event whose turn it is acts on its departure, R29. -/
theorem State.onRun_eventStep {s : State} {d : Nat} {ev : DepEvent} {y : Yard} (hmay : s.toRun.mayTake .departures = true)
    (hdue : s.toRun.firstDue = some (d, ev)) (hy : s.toRun.yard.takeEvent s.toRun.env d ev = y) :
    s.onRun (fun r => r.eventStep d ev) =
      { s.withFloor y.toFloor y.notes with work := s.workLeft y.toFloor .departures .departures } := by
  subst hy
  simp only [State.onRun, Run.eventStep, hmay, hdue, beq_self_eq_true, Bool.and_self, if_true]
  rfl

/-- Without a QUEUED task of the departure at level 5 nothing is raised, R41. -/
theorem Yard.raiseQueued_none {y : Yard} {d : Nat} (h : ∀ id ∈ y.queue 5, (y.tasks.get id).bind (·.dep) ≠ some d) :
    y.raiseQueued d = y := by
  have hids : ((y.queue 5).filter fun id => ((y.tasks.get id).bind (·.dep)) == some d) = [] := by
    rw [List.filter_eq_nil_iff]
    exact fun id hid => by simpa using h id hid
  simp only [Yard.raiseQueued, hids, List.foldl_nil]

theorem DepState.cuttable_of {st : DepState} (hcut : st ≠ .cut) (hclosed : st ≠ .closed) : st.cuttable = true := by
  cases st <;> trivial

theorem DepState.not_cuttable {st : DepState} (h : st = .cut ∨ st = .closed) : st.cuttable = false := by
  rcases h with rfl | rfl <;> rfl

/-- Settles O51. -/
theorem dueEventsActOnTheirDeparture : Obligations.DueEventsActOnTheirDeparture := by
  intro s d r hr hmay
  have hrecord : s.toRun.yard.departure d = r := Floor.departure_of_get hr
  have mod g := Yard.modDep_of_get (y := s.toRun.yard) g hr
  have event {ev y} hdue hy := congrArg (Host.Outcome.next (φ := Fault) (ρ := Refusal))
    (State.onRun_eventStep (s := s) (d := d) (ev := ev) (y := y) hmay hdue hy)
  refine ⟨fun e hdue hst he hrole hfault => ?call, fun hdue hst f hf => ?mark, fun hdue hqueue f hf => ?margin,
    fun hdue => ⟨fun hst f hf => ?cutMark, fun n hcut hclosed hdeck => ?cut⟩⟩
  case call =>
    have hcall := Yard.call_waits (y := s.toRun.yard) (env := s.toRun.env) he hr (Floor.claimRefused_faulted hrole hfault)
    have hstate : (s.toRun.yard.departure d).state = .planned := by rw [hrecord, hst]
    exact ⟨_, event hdue ((if_pos hstate).trans hcall), Yard.putDep_get .., fun k hk => Yard.putDep_get_other _ _ hk, rfl, rfl⟩
  case mark =>
    subst hf
    have hstate : (s.toRun.yard.departure d).state ≠ .planned := by rwa [hrecord]
    exact event hdue ((if_neg hstate).trans (mod _))
  case margin =>
    subst hf
    refine event hdue ((congrArg (Yard.raiseQueued · d) (mod _)).trans (Yard.raiseQueued_none hqueue))
  case cutMark =>
    subst hf
    have hstate : (s.toRun.yard.departure d).state.cuttable = false := by rw [hrecord, DepState.not_cuttable hst]
    have hevent : s.toRun.yard.cutEvent s.toRun.env d = s.toRun.yard.putDep d { r with cutMark := true } :=
      (if_neg (Bool.eq_false_iff.mp hstate)).trans (mod _)
    exact event hdue ((congrArg (Yard.watch · s.toRun.env s.floor) hevent).trans (Yard.watch_lanes rfl))
  case cut =>
    have hstate : (s.toRun.yard.departure d).state.cuttable = true := by rw [hrecord, DepState.cuttable_of hcut hclosed]
    have hevent : s.toRun.yard.cutEvent s.toRun.env d = (s.toRun.yard.cutOff s.toRun.env d).2 := if_pos hstate
    rw [Yard.cutOff_blank hr hdeck] at hevent
    have hwatch := (congrArg (Yard.watch · s.toRun.env s.floor) hevent).trans (Yard.watch_lanes rfl)
    exact ⟨_, event hdue hwatch, Yard.putDep_get .., fun k hk => Yard.putDep_get_other _ _ hk, rfl, rfl⟩

end Sys2Proof.Machine

namespace Sys2Proof.Machine

/-! ## Eligibility, R96 -/

theorem Task.loads_iff {t : Task} : t.loads = true ↔ t.kind = .load ∨ t.kind = .direct := by simp [Task.loads]

theorem Task.not_loads_iff {t : Task} : t.loads = false ↔ t.kind ≠ .load ∧ t.kind ≠ .direct := by simp [Task.loads]

theorem Floor.faultedAt_iff {f : Floor} {l : Loc} :
    f.faultedAt l = false ↔ ∀ n, l = .door n → (f.door n).faulted = false := by
  cases l <;> simp [Floor.faultedAt]

/-- No FAULTED door holds a task back: R96 condition 2, by the kind of the task. -/
theorem Floor.doorBlocks_iff {f : Floor} {env : Env} {t : Task} :
    f.doorBlocks env t = false ↔
      (∀ n, t.src = .door n → (f.door n).faulted = false) ∧
      (t.loads = false → ∀ n, t.dst = .door n → (f.door n).faulted = false) ∧
      (t.loads = true → ∀ d e, t.dep = some d → env.plan.departures.get d = some e → (f.door e.door).faulted = false) := by
  rw [Floor.doorBlocks, Bool.or_eq_false_iff, Floor.faultedAt_iff]
  refine and_congr_right fun _ => ?_
  cases t.loads with
  | false => simp [Floor.faultedAt_iff]
  | true =>
    cases t.dep with
    | none => simp
    | some d =>
      cases he : env.plan.departures.get d with
      | none =>
        have hentry : env.depEntry d = none := he
        simp only [Option.bind_some, hentry, Bool.true_eq_false, false_imp_iff, true_and, if_true, true_iff, true_imp_iff]
        rintro d' e ⟨⟩ he'
        exact absurd (he.symm.trans he') (by simp)
      | some e =>
        have hentry : env.depEntry d = some e := he
        simp only [Option.bind_some, hentry, Bool.true_eq_false, false_imp_iff, true_and, if_true, true_imp_iff]
        refine ⟨?_, fun h => h d e rfl he⟩
        rintro hfree d' e' ⟨⟩ he'
        cases he.symm.trans he'
        exact hfree

theorem Floor.tierBlocks_iff {f : Floor} {t : Task} :
    f.tierBlocks t = false ↔ ∀ d pos tier below, t.dst = .trailer d pos tier →
      (((f.deck d).stackAt pos).take (tier - 1)).getLast? = some below → below.status = .loaded := by
  unfold Floor.tierBlocks
  cases t.dst with
  | floor _ => simp
  | door _ => simp
  | trailer d pos tier =>
    cases hlast : (((f.deck d).stackAt pos).take (tier - 1)).getLast? with
    | none =>
      simp only [hlast, true_iff]
      rintro d' pos' tier' below ⟨⟩ h
      exact absurd (hlast.symm.trans h) (by simp)
    | some top =>
      simp only [hlast, bne_eq_false_iff_eq]
      refine ⟨?_, fun h => h d pos tier top rfl hlast⟩
      rintro htop d' pos' tier' below ⟨⟩ h
      cases hlast.symm.trans h
      exact htop

/-- A test that answers with a reason where `c` holds. -/
theorem ite_some_eq_none_iff {α : Type} {c : Prop} [Decidable c] {a : α} {o : Option α} :
    (if c then some a else o) = none ↔ ¬c ∧ o = none := by
  split <;> simp [*]

/-- The four conditions of R96. -/
theorem Floor.ineligible_none_iff {f : Floor} {env : Env} {t : Task} :
    f.ineligible env t = none ↔ f.dispatchHold = false ∧ f.doorBlocks env t = false ∧
      (t.loads = true → (∀ d, t.dep = some d → (f.departure d).hold = false) ∧ f.tierBlocks t = false) := by
  have hhold : (t.dep.map fun d => (f.departure d).hold).getD false = false ↔
      ∀ d, t.dep = some d → (f.departure d).hold = false := by cases t.dep <;> simp
  simp only [Floor.ineligible, ite_some_eq_none_iff, Bool.and_eq_true, Bool.not_eq_true, and_true, not_and]
  rw [← hhold, ← imp_and]

theorem Floor.eligible_iff {f : Floor} {env : Env} {id : Nat} :
    f.eligible env id = true ↔ ∃ t, f.tasks.get id = some t ∧ f.ineligible env t = none := by
  unfold Floor.eligible
  cases f.tasks.get id <;> simp

/-- R96 in full, for the task under an id. -/
theorem Floor.eligible_iff_conditions {f : Floor} {env : Env} {id : Nat} :
    f.eligible env id = true ↔ ∃ t, f.tasks.get id = some t ∧ f.dispatchHold = false ∧
      (∀ n, t.src = .door n → (f.door n).faulted = false) ∧
      (t.kind ≠ .load → t.kind ≠ .direct → ∀ n, t.dst = .door n → (f.door n).faulted = false) ∧
      (t.kind = .load ∨ t.kind = .direct →
        (∀ d e, t.dep = some d → env.plan.departures.get d = some e → (f.door e.door).faulted = false) ∧
        (∀ d, t.dep = some d → (f.departure d).hold = false) ∧
        (∀ d pos tier below, t.dst = .trailer d pos tier →
          (((f.deck d).stackAt pos).take (tier - 1)).getLast? = some below → below.status = .loaded)) := by
  rw [Floor.eligible_iff]
  refine exists_congr fun t => and_congr_right fun _ => ?_
  rw [Floor.ineligible_none_iff, Floor.doorBlocks_iff, Floor.tierBlocks_iff, Task.not_loads_iff, Task.loads_iff, and_imp]
  tauto

/-- Under dispatch hold nothing is eligible, R114. -/
theorem Floor.eligible_of_hold {f : Floor} {env : Env} (h : f.dispatchHold = true) (id : Nat) :
    f.eligible env id = false := by
  rw [← Bool.not_eq_true, Floor.eligible_iff]
  rintro ⟨t, -, ht⟩
  simp [Floor.ineligible, h] at ht

/-! ## The task that MOVER READY takes, R100 -/

/-- The first of the numbers below `n`, from the highest down, for which `g` gives something. -/
theorem findSome?_descending {β : Type} (g : Nat → Option β) (b : β) (n : Nat) :
    (List.range n).reverse.findSome? g = some b ↔
      ∃ l < n, g l = some b ∧ ∀ k, l < k → k < n → g k = none := by
  induction n with
  | zero => simp
  | succ n ih =>
    rw [List.range_succ, List.reverse_append, List.reverse_singleton, List.singleton_append, List.findSome?_cons]
    cases hn : g n with
    | some c =>
      constructor
      · rintro ⟨⟩
        exact ⟨n, n.lt_succ_self, hn, fun k h1 h2 => by omega⟩
      · rintro ⟨l, hl, hb, hnone⟩
        by_cases h : l = n
        · exact (h ▸ hn).symm.trans hb
        · exact absurd (hnone n (by omega) (by omega)) (by simp [hn])
    | none =>
      refine ih.trans ⟨?_, ?_⟩
      · rintro ⟨l, hl, hb, hnone⟩
        refine ⟨l, by omega, hb, fun k h1 h2 => ?_⟩
        by_cases h : k = n
        · exact h ▸ hn
        · exact hnone k h1 (by omega)
      · rintro ⟨l, hl, hb, hnone⟩
        have : l ≠ n := by rintro rfl; simp [hn] at hb
        exact ⟨l, by omega, hb, fun k h1 h2 => hnone k h1 (by omega)⟩

theorem Floor.nextTask_some_iff {f : Floor} {env : Env} {id : Nat} :
    f.nextTask env = some id ↔ ∃ level pre post, level ≤ 7 ∧ f.queue level = pre ++ id :: post ∧
      f.eligible env id = true ∧ (∀ x ∈ pre, f.eligible env x = false) ∧
      ∀ l, level < l → l ≤ 7 → ∀ x ∈ f.queue l, f.eligible env x = false := by
  refine (findSome?_descending (fun level => (f.queue level).find? fun id => f.eligible env id) id 8).trans ?_
  simp only [List.find?_eq_some_iff_append, List.find?_eq_none, Bool.not_eq_true, Bool.not_eq_true', Nat.lt_succ_iff]
  constructor
  · rintro ⟨level, hlevel, ⟨hid, pre, post, hq, hpre⟩, habove⟩
    exact ⟨level, pre, post, hlevel, hq, hid, hpre, habove⟩
  · rintro ⟨level, pre, post, hlevel, hq, hid, hpre, habove⟩
    exact ⟨level, hlevel, ⟨hid, pre, post, hq, hpre⟩, habove⟩

theorem Floor.nextTask_none_iff {f : Floor} {env : Env} :
    f.nextTask env = none ↔ ∀ l, l ≤ 7 → ∀ x ∈ f.queue l, f.eligible env x = false := by
  have hlist : ([7, 6, 5, 4, 3, 2, 1, 0] : List Nat) = (List.range 8).reverse := rfl
  unfold Floor.nextTask
  rw [hlist, List.findSome?_eq_none_iff]
  simp only [List.mem_reverse, List.mem_range, List.find?_eq_none, Bool.not_eq_true, Nat.lt_succ_iff]

/-! ## Issue, R101 -/

/-- A change made twice is made once: several records changed alike, R58. -/
theorem Yard.foldl_modPallet {g : Pallet → Pallet} (hg : ∀ p, g (g p) = g p) (refs : List Nat) (y : Yard) :
    ∃ t, refs.foldl (fun z ref => z.modPallet ref g) y = { y with pallets := t } ∧
      (∀ ref ∈ refs, t.get ref = (y.pallets.get ref).map g) ∧ ∀ ref, ref ∉ refs → t.get ref = y.pallets.get ref := by
  induction refs generalizing y with
  | nil => exact ⟨y.pallets, rfl, by simp, fun _ _ => rfl⟩
  | cons first rest ih =>
    obtain ⟨t, hfold, hin, hout⟩ := ih (y.modPallet first g)
    have hother {ref} (h : ref ≠ first) : (y.modPallet first g).pallets.get ref = y.pallets.get ref :=
      Tab.get_modify_other _ _ h
    have hsame : (y.modPallet first g).pallets.get first = (y.pallets.get first).map g := Tab.get_modify_same ..
    refine ⟨t, hfold, fun ref href => ?_, fun ref href => ?_⟩
    · by_cases hf : ref = first
      · subst hf
        by_cases hr : ref ∈ rest
        · rw [hin ref hr, hsame, Option.map_map]
          exact congrArg (Option.map · _) (funext hg)
        · rw [hout ref hr, hsame]
      · rw [hin ref ((List.mem_cons.mp href).resolve_left hf), hother hf]
    · rw [List.mem_cons, not_or] at href
      rw [hout ref href.2, hother href.1]

/-- A task as it is issued to mover `m`, R101. -/
def Task.issuedTo (t : Task) (m minute : Nat) : Task :=
  { t with mover := some m, lastMover := some m, issueMinute := some minute, mark := false }

/-- What the issue of a task does, R101. -/
theorem Yard.issueTask_eq {y : Yard} {env : Env} {m id : Nat} {t : Task} (ht : y.tasks.get id = some t) :
    ∃ p, y.issueTask env m id =
        { y with
          queues := y.queues.set [] t.level ((y.queue t.level).filter (· ≠ id))
          tasks := y.tasks.put id (t.issuedTo m env.minute)
          issued := y.issued ++ [id]
          movers := y.movers.set Mover.reset m { y.mover m with state := .busy id }
          pallets := p } ∧
      (∀ ref ∈ t.unmoved, p.get ref = (y.pallets.get ref).map fun q => { q with state := t.kind.issuedState }) ∧
      ∀ ref, ref ∉ t.unmoved → p.get ref = y.pallets.get ref := by
  obtain ⟨p, hfold, hin, hout⟩ := Yard.foldl_modPallet (g := fun q => { q with state := t.kind.issuedState })
    (fun _ => rfl) t.unmoved
    { y with
      queues := y.queues.set [] t.level ((y.queue t.level).filter (· ≠ id))
      tasks := y.tasks.put id (t.issuedTo m env.minute)
      issued := y.issued ++ [id]
      movers := y.movers.set Mover.reset m { y.mover m with state := .busy id } }
  refine ⟨p, Eq.trans ?_ hfold, hin, hout⟩
  simp only [Yard.issueTask, ht, Yard.dequeue, Yard.setQueue, Yard.setMover, Yard.modTask, Tab.modify_of_get _ ht]
  rfl

theorem TaskKind.issuedState_eq (k : TaskKind) :
    k.issuedState = if k = .load ∨ k = .direct then .loading else .inTransit := by cases k <;> rfl

section

variable {c : Byte} {env : Env} {y : Yard} (h1 : 1 ≤ c.toNat) (h24 : c.toNat ≤ 24) (hopen : env.isOpen = true)
  (hidle : (y.mover c.toNat).state = .idle)

include h1 h24 hopen hidle

/-- MOVER READY of an IDLE mover for which there is no task, R100. -/
theorem answerMoverReady_none (hnext : y.nextTask env = none) : answerMoverReady [c] env y = .done (le8 0) y := by
  rw [answerMoverReady, onMover, numbered_in h1 h24]
  simp [needsNight, hopen, hidle, hnext]

/-- MOVER READY of an IDLE mover is given the task found, R100, R101. -/
theorem answerMoverReady_some {id : Nat} {t : Task} (hnext : y.nextTask env = some id) (ht : y.tasks.get id = some t) :
    answerMoverReady [c] env y = .done (y.readyBytes env id t) (y.issueTask env c.toNat id) := by
  rw [answerMoverReady, onMover, numbered_in h1 h24]
  simp [needsNight, hopen, hidle, hnext, ht]

end

/-- Settles O37. -/
theorem moverReadyIssuesOneTask : Obligations.MoverReadyIssuesOneTask := by
  refine ⟨fun f env => ⟨fun id => Floor.nextTask_some_iff, Floor.nextTask_none_iff, fun id =>
    Floor.eligible_iff_conditions⟩, fun s u tag m hu h1 h24 hopen hidle => ⟨fun hnone => ?noWork,
    fun id t hnext ht => ?issued⟩⟩
  case noWork =>
    have hnext : u.floor.nextTask u.toRun.env = none := by
      refine hnone.elim (fun h => h) fun hhold => ?_
      exact Floor.nextTask_none_iff.mpr fun l _ x _ => Floor.eligible_of_hold hhold x
    exact congrArg Host.Outcome.next (takeRequest_asYard hu (answerMoverReady_none h1 h24 hopen hidle hnext))
  case issued =>
    have answer := answerMoverReady_some (env := u.toRun.env) (y := u.toRun.yard) h1 h24 hopen hidle hnext ht
    obtain ⟨p, hissue, hin, hout⟩ := Yard.issueTask_eq (y := u.toRun.yard) (env := u.toRun.env) (m := m.toNat) ht
    rw [hissue] at answer
    refine ⟨_, congrArg Host.Outcome.next (takeRequest_asYard hu answer), Tab.get_put_same .., fun k hk =>
      Tab.get_put_other _ _ hk, Tab.at_set_same .., fun k hk => Tab.at_set_other _ _ _ hk, Tab.at_set_same ..,
      fun k hk => Tab.at_set_other _ _ _ hk, rfl, fun ref q href hq => ?_, hout, rfl⟩
    rw [← TaskKind.issuedState_eq]
    exact (hin ref href).trans (congrArg (Option.map _) hq)

end Sys2Proof.Machine

namespace Sys2Proof.Machine

/-! ## What operations on one departure leave of another

`Yard.Stays b k y` says what a cut-off or a closing of other departures, begun on the floor `b`, leaves of departure `k`: one
lemma `Yard.Stays.op` for each operation `op` of the model, so that a proof about a composed operation is the chain of its
parts' names. -/

/-- `r` is what may become of the record `a`: a departure CUT or CLOSED stays as it is and no other is CLOSED. -/
structure Departure.Kept (a r : Departure) : Prop where
  closed : r.state = .closed ↔ a.state = .closed
  cut : a.state = .cut → r.state = .cut
  doorTaken : r.doorTaken = a.doorTaken
  departMinute : r.departMinute = a.departMinute
  hold : r.hold = a.hold
  stalled : a.state.cuttable = false → a.stalled = false → r.stalled = false

theorem Departure.Kept.refl (a : Departure) : a.Kept a := ⟨.rfl, id, rfl, rfl, rfl, fun _ h => h⟩

namespace Departure.Kept

variable {a r : Departure}

/-- A departure CUT or CLOSED stays so. -/
theorem final (h : a.Kept r) (ha : a.state.cuttable = false) : r.state.cuttable = false := by
  have hst : a.state = .cut ∨ a.state = .closed := by
    by_contra hne
    rw [not_or] at hne
    rw [DepState.cuttable_of hne.1 hne.2] at ha
    cases ha
  rcases hst with hst | hst
  · rw [h.cut hst]; rfl
  · rw [h.closed.mpr hst]; rfl

theorem withState {st : DepState} (h : a.Kept r) (hr : r.state.cuttable = true) (hst : st.cuttable = true) :
    a.Kept { r with state := st } := by
  have hopen : a.state.cuttable ≠ false := fun ha => by rw [h.final ha] at hr; cases hr
  exact { h with
    closed := ⟨fun (hc : st = .closed) => (by rw [hc] at hst; cases hst), fun ha => (hopen (by rw [ha]; rfl)).elim⟩
    cut := fun ha => (hopen (by rw [ha]; rfl)).elim }

/-- A LOADED departure that takes a pallet loads again, R39. -/
theorem reopened (h : a.Kept r) (hr : r.state.cuttable = true) :
    a.Kept { r with state := if r.state = .loaded then .loading else r.state } := by
  refine h.withState hr ?_
  split
  · rfl
  · exact hr

theorem withStalled (h : a.Kept r) (hr : r.state.cuttable = true) : a.Kept { r with stalled := true } :=
  { h with stalled := fun ha => by rw [h.final ha] at hr; cases hr }

theorem clearStalled (h : a.Kept r) : a.Kept { r with stalled := false } := { h with stalled := fun _ _ => rfl }

/-- A departure not CLOSED is cut off, R47. -/
theorem cutOff {n : Nat} (h : a.Kept r) (ha : a.state ≠ .closed) :
    a.Kept { r with removedAtCut := n, state := .cut } :=
  { h with closed := ⟨nofun, fun hc => (ha hc).elim⟩, cut := fun _ => rfl }

end Departure.Kept

/-- `r` is what may become of the door `a`: at most it goes into CHANGEOVER. -/
structure Door.Eased (a r : Door) : Prop where
  underlying : r.underlying = a.underlying ∨ ∃ till, r.underlying = .changeover till
  faulted : r.faulted = a.faulted
  condition : r.condition = a.condition
  faultMinute : r.faultMinute = a.faultMinute

theorem Door.Eased.refl (a : Door) : a.Eased a := ⟨.inl rfl, rfl, rfl, rfl⟩

theorem Door.Eased.trans {a b c : Door} (h1 : a.Eased b) (h2 : b.Eased c) : a.Eased c where
  underlying := by
    rcases h2.underlying with h | h
    · rw [h]; exact h1.underlying
    · exact .inr h
  faulted := h2.faulted.trans h1.faulted
  condition := h2.condition.trans h1.condition
  faultMinute := h2.faultMinute.trans h1.faultMinute

/-- The floor `y` keeps departure `k` and the doors as `b` has them. -/
structure Yard.Stays (b : Floor) (k : Nat) (y : Yard) : Prop where
  record : (b.departure k).Kept (y.departure k)
  places : (y.deck k).places.length = (b.deck k).places.length
  blank : (b.departure k).state.cuttable = false → ∀ n, b.deck k = Deck.blank n → y.deck k = Deck.blank n
  doors : ∀ n, (b.door n).Eased (y.door n)

theorem Yard.Stays.refl (k : Nat) (y : Yard) : y.Stays y.toFloor k :=
  ⟨.refl _, rfl, fun _ _ h => h, fun _ => .refl _⟩

/-! ### Deck maps -/

@[simp] theorem Deck.shift_length (dk : Deck) (ref : Nat) (src dst : LoadStatus) :
    (dk.shift ref src dst).places.length = dk.places.length := List.length_map ..

@[simp] theorem Deck.shift_blank (n ref : Nat) (src dst : LoadStatus) : (Deck.blank n).shift ref src dst = Deck.blank n := by
  simp [Deck.shift, Deck.blank]

@[simp] theorem Deck.pull_length (dk : Deck) (pr : Profile) (pos ref w : Nat) :
    (dk.pull pr pos ref w).places.length = dk.places.length := List.length_modify ..

@[simp] theorem Deck.push_length (dk : Deck) (pr : Profile) (pos : Nat) (e : Entry) (w : Nat) :
    (dk.push pr pos e w).places.length = dk.places.length := List.length_modify ..

/-- A change that leaves an empty stack empty leaves all of them so. -/
theorem modify_replicate_nil {α : Type} (g : List α → List α) (hg : g [] = []) (n i : Nat) :
    (List.replicate n []).modify i g = List.replicate n [] := by
  refine List.eq_replicate_iff.mpr ⟨by simp, fun l hl => ?_⟩
  obtain ⟨j, hj, rfl⟩ := List.mem_iff_getElem.mp hl
  rw [List.getElem_modify]
  split <;> simp [hg]

/-- Nothing is pulled off an empty map. -/
@[simp] theorem Deck.pull_blank (n : Nat) (pr : Profile) (pos ref w : Nat) :
    (Deck.blank n).pull pr pos ref w = Deck.blank n := by
  simp only [Deck.pull, Deck.blank, modify_replicate_nil (List.filter fun e : Entry => decide (e.ref ≠ ref)) rfl]
  simp

namespace Yard.Stays

variable {b : Floor} {k : Nat} {y z : Yard} {env : Env}

/-- The departure's record on a floor that keeps it may still be final or not. -/
theorem open_of_state {d : Nat} (h : y.Stays b k) (hd : d = k) (hst : (y.departure d).state.cuttable = true) :
    (b.departure k).state.cuttable ≠ false := fun hb => by
  subst hd
  rw [h.record.final hb] at hst
  cases hst

/-! ### One record or list is written -/

theorem modDep {d : Nat} {g : Departure → Departure} (h : y.Stays b k)
    (hg : d = k → (b.departure k).Kept (y.departure k) → (b.departure k).Kept (g (y.departure k))) :
    (y.modDep d g).Stays b k := by
  refine { h with record := ?_ }
  by_cases hd : d = k
  · subst hd
    cases hr : y.departures.get d with
    | none =>
      have hsame : y.modDep d g = y := by simp [Yard.modDep, Tab.modify, hr]
      rw [hsame]
      exact h.record
    | some r =>
      rw [Floor.departure_modDep y g hr, ← Floor.departure_of_get hr]
      exact hg rfl h.record
  · rw [Floor.departure_modDep_other y g (Ne.symm hd)]
    exact h.record

theorem setDeck {d : Nat} {dk : Deck} (h : y.Stays b k) (hlen : dk.places.length = (y.deck d).places.length)
    (hblank : d = k → (b.departure k).state.cuttable = false → ∀ n, y.deck d = Deck.blank n → dk = Deck.blank n) :
    (y.setDeck d dk).Stays b k := by
  by_cases hd : d = k
  · subst hd
    have hdeck : (y.setDeck d dk).deck d = dk := Floor.deck_setDeck ..
    exact { h with
      places := by rw [hdeck, hlen]; exact h.places
      blank := fun hb n hn => by rw [hdeck]; exact hblank rfl hb n (h.blank hb n hn) }
  · have hdeck : (y.setDeck d dk).deck k = y.deck k := Floor.deck_setDeck_other _ _ (Ne.symm hd)
    exact { h with
      places := by rw [hdeck]; exact h.places
      blank := fun hb n hn => by rw [hdeck]; exact h.blank hb n hn }

theorem modPallet {ref g} (h : y.Stays b k) : (y.modPallet ref g).Stays b k := { h with }

theorem setLane {l r} (h : y.Stays b k) : (y.setLane l r).Stays b k := { h with }

theorem setMover {m r} (h : y.Stays b k) : (y.setMover m r).Stays b k := { h with }

theorem modTask {id g} (h : y.Stays b k) : (y.modTask id g).Stays b k := { h with }

theorem note {n o} (h : y.Stays b k) : (y.note env o n).Stays b k := { h with }

theorem withWaiting {w} (h : y.Stays b k) : Yard.Stays b k { y with waiting := w } := { h with }

theorem freePallet {ref} (h : y.Stays b k) : (y.freePallet ref).Stays b k := { h with }

/-! ### Lanes, pool and queues -/

theorem laneLeave {l ref} (h : y.Stays b k) : (y.laneLeave l ref).Stays b k := h.setLane

theorem leaveLoc {loc ref} (h : y.Stays b k) : (y.leaveLoc loc ref).Stays b k := by
  unfold Yard.leaveLoc
  split
  · split
    · exact h.laneLeave
    · exact h
  · exact h

theorem unexpectAt {dst} (h : y.Stays b k) : (y.unexpectAt dst).Stays b k := by
  unfold Yard.unexpectAt
  split
  · exact h.setLane
  · exact h

theorem watch {before} (h : y.Stays b k) : (y.watch env before).Stays b k := by
  rw [show y.watch env before = _ from y.watch_lanesOnly env before]
  exact { h with }

theorem addTask {t} (h : y.Stays b k) : (y.addTask t).Stays b k := { h with }

theorem askTask {kind level src dst ref} (h : y.Stays b k) : (y.askTask kind level src dst ref).2.Stays b k := by
  rcases y.askTask_cases kind level src dst ref with ⟨-, he⟩ | ⟨-, he⟩ <;> rw [he]
  · exact h.addTask
  · exact { h with }

theorem dropBacklog {ref} (h : y.Stays b k) : (y.dropBacklog ref).Stays b k := { h with }

theorem admitBacklog (h : y.Stays b k) : y.admitBacklog.Stays b k := by
  unfold Yard.admitBacklog
  split
  · exact h
  · split
    · exact h
    · exact addTask { h with }

theorem takeTaskOut {id} (h : y.Stays b k) : (y.takeTaskOut id).Stays b k := by
  unfold Yard.takeTaskOut
  split
  · exact h
  · exact { h with }

theorem freeMover {id st} (h : y.Stays b k) : (y.freeMover id st).Stays b k := by
  unfold Yard.freeMover
  split
  · exact h
  · exact h.setMover

/-! ### Deck entries -/

theorem shiftStatus {d ref src dst} (h : y.Stays b k) : (y.shiftStatus d ref src dst).Stays b k :=
  h.setDeck (Deck.shift_length ..) fun _ _ n hn => by rw [hn]; exact Deck.shift_blank ..

theorem pullEntry {d ref pos} (h : y.Stays b k) : (y.pullEntry env d ref pos).Stays b k := by
  unfold Yard.pullEntry
  split
  · exact h
  · exact (h.setDeck (Deck.pull_length ..) fun _ _ n hn => by rw [hn]; exact Deck.pull_blank ..).modPallet

/-- A place is sought on a departure that is neither CUT nor CLOSED, R15. -/
theorem searchable_of_findPlace {f : Floor} {d ref pos : Nat} (h : f.findPlace env d ref = some pos) :
    (f.departure d).state.cuttable = true := by
  have hsearch : (f.departure d).state.searchable = true := by
    unfold Floor.findPlace at h
    simp only at h
    split at h
    · split at h
      · cases h
      · rename_i hc; simp only [Bool.or_eq_true, Bool.not_eq_true', not_or, Bool.not_eq_false] at hc; exact hc.1
    · cases h
  generalize (f.departure d).state = st at hsearch
  cases st <;> trivial

theorem tryPlace {d ref} (h : y.Stays b k) (hz : y.tryPlace env d ref = some z) : z.Stays b k := by
  obtain ⟨pos, hpos, rfl⟩ := Yard.tryPlace_some hz
  have hst := searchable_of_findPlace hpos
  unfold Yard.place
  split
  · exact h
  · refine ((h.setDeck (Deck.push_length ..) fun hd hb => (h.open_of_state hd hst hb).elim).modPallet).modDep ?_
    exact fun hd hr => hr.reopened (hd ▸ hst)

/-! ### Departure control's release and the pool's leavers -/

theorem depNote {d e} (h : y.Stays b k) : (y.depNote env d e).Stays b k := h.note

theorem createTask {t r} (h : y.Stays b k) (hr : y.createTask t = some r) : r.2.Stays b k := by
  obtain ⟨-, -, hz⟩ := Yard.createTask_cases hr
  exact hz ▸ h.addTask

/-- The release of an entry touches no departure's record. -/
theorem releaseEntry_departures {y z : Yard} {d : Nat} {s : Slot} (hz : y.releaseEntry d s = some z) :
    z.departures = y.departures := by
  unfold Yard.releaseEntry at hz
  split at hz
  · cases hz
  · obtain ⟨r, hr, rfl⟩ := Option.map_eq_some_iff.mp hz
    obtain ⟨-, -, hadd⟩ := Yard.createTask_cases hr
    rw [Yard.shiftStatus, Yard.setDeck_departures, hadd]
    rfl

theorem releaseEntry {d s} (h : y.Stays b k) (hz : y.releaseEntry d s = some z) : z.Stays b k := by
  unfold Yard.releaseEntry at hz
  split at hz
  · cases hz
  · obtain ⟨r, hr, rfl⟩ := Option.map_eq_some_iff.mp hz
    exact (h.createTask hr).shiftStatus

theorem releaseWalk {d batch} : ∀ {l : List Slot} {y : Yard}, y.Stays b k → (y.departure d).state.cuttable = true →
    (releaseWalk d batch l y).Stays b k
  | [], _, h, _ => h
  | s :: rest, y, h, hst => by
    unfold Machine.releaseWalk
    split
    · exact releaseWalk h hst
    · exact releaseWalk h hst
    · split
      · split
        · rename_i hz
          refine releaseWalk (h.releaseEntry hz) ?_
          rwa [Floor.departure, releaseEntry_departures hz]
        · exact h.modDep fun hd hr => hr.withStalled (hd ▸ hst)
      · exact h

theorem release {d} (h : y.Stays b k) : (y.release env d).Stays b k := by
  unfold Yard.release
  split
  · exact h
  · split
    · rename_i hst; exact h.releaseWalk (by rw [hst.1]; rfl)
    · exact h

theorem loadedTest {d} (h : y.Stays b k) : (y.loadedTest env d).Stays b k := by
  unfold Yard.loadedTest
  split
  · rename_i hst
    exact (h.modDep fun hd hr => hr.withState (by rw [← hd, hst.1]; rfl) rfl).depNote
  · exact h

theorem stopTest {d} (h : y.Stays b k) : (y.stopTest env d).Stays b k := by
  unfold Yard.stopTest
  split
  · rename_i hst
    exact (h.modDep fun hd hr => hr.withState (by rw [← hd, hst.1]; rfl) rfl).depNote
  · exact h

theorem evaluate {d} (h : y.Stays b k) : (y.evaluate env d).Stays b k := by
  unfold Yard.evaluate
  split
  · exact h
  · exact h.release.loadedTest.stopTest

theorem wakeStalled (h : y.Stays b k) : (y.wakeStalled env).Stays b k :=
  foldl_keeps evaluate (foldl_keeps (fun hz => hz.modDep fun _ hr => hr.clearStalled) h)

theorem leavePool {id} (h : y.Stays b k) : (y.leavePool env id).Stays b k := by
  unfold Yard.leavePool
  split
  · exact h.takeTaskOut.admitBacklog.wakeStalled
  · exact h

/-! ### Routing and removal -/

theorem routeOver {stand ref} :
    ∀ {ds : List Nat} {r : Routed}, y.Stays b k → y.routeOver env stand ref ds = some r → r.yard.Stays b k
  | [], _, _, hr => by cases hr
  | d :: rest, r, h, hr => by
    unfold Yard.routeOver at hr
    split at hr
    · exact routeOver h hr
    · split at hr
      · rename_i hz; cases hr; exact h.tryPlace hz
      · exact routeOver h hr

theorem giveMove {stand ref lane} (h : y.Stays b k) : (y.giveMove stand ref lane).Stays b k := by
  unfold Yard.giveMove
  split
  · exact h
  · exact h.modPallet.setLane.askTask

theorem bindHold {ref} (h : y.Stays b k) : (y.bindHold ref).2.Stays b k := by
  unfold Yard.bindHold
  simp only
  split
  · exact h.modPallet.askTask
  · exact h.modPallet.askTask
  · exact h.modPallet
  · exact h

theorem takeOffTask {id ref} (h : y.Stays b k) : (y.takeOffTask env id ref).Stays b k := by
  unfold Yard.takeOffTask
  simp only
  split
  · split
    · exact h.modTask.leavePool
    · exact h.modTask
  · exact h.modTask

theorem takeOffTip {ref} (h : y.Stays b k) : (y.takeOffTip env ref).Stays b k := by
  unfold Yard.takeOffTip
  split
  · split
    · exact h.unexpectAt.takeOffTask
    · exact h
  · split
    · split
      · exact h.unexpectAt.dropBacklog
      · exact h
    · exact h

theorem reroute {cause former ref} (h : y.Stays b k) : (y.reroute env cause former ref).2.Stays b k := by
  unfold Yard.reroute
  simp only
  split
  · rename_i hr; exact (h.takeOffTip.routeOver hr).giveMove.note
  · exact h.takeOffTip.bindHold.note

theorem withdrawRelease {ref} (h : y.Stays b k) : (y.withdrawRelease env ref).Stays b k := by
  unfold Yard.withdrawRelease
  split
  · split
    · exact h.leavePool
    · exact h
  · exact h

theorem liftEntry {d pos ref} (h : y.Stays b k) : (y.liftEntry env d pos ref).Stays b k := h.withdrawRelease.pullEntry

theorem replaceOne {cause d pos tier ref} (h : y.Stays b k) : (y.replaceOne env cause d pos tier ref).2.Stays b k := by
  unfold Yard.replaceOne
  split
  · rename_i hz; exact (h.tryPlace hz).note
  · exact h.reroute

theorem replaceAll {cause d pos} :
    ∀ {refs : List Nat} {tier : Nat} {y : Yard}, y.Stays b k → (replaceAll env cause d pos tier refs y).2.Stays b k
  | [], _, _, h => h
  | _ :: rest, _, _, h => replaceAll (refs := rest) h.replaceOne

theorem removeEntry {cause ref} (h : y.Stays b k) : (y.removeEntry env cause ref).2.Stays b k := by
  unfold Yard.removeEntry
  split
  · exact foldl_keeps evaluate (replaceAll (foldl_keeps liftEntry h.withdrawRelease).pullEntry).evaluate
  · exact h

theorem rerouteTold {cause former ref} (h : y.Stays b k) : (y.rerouteTold env cause former ref).2.Stays b k := by
  unfold Yard.rerouteTold
  simp only
  split
  · exact h.reroute.evaluate
  · exact h.reroute

theorem goMissing {cause former ref} (h : y.Stays b k) : (y.goMissing env cause former ref).Stays b k := h.modPallet.note

/-! ### Cut-off and withdrawal -/

theorem rerouteAll {d} : ∀ {refs : List Nat} {y : Yard}, y.Stays b k → (rerouteAll env d refs y).2.Stays b k
  | [], _, h => h
  | _ :: rest, _, h => rerouteAll (refs := rest) h.rerouteTold

/-- A cut-off of a departure not CLOSED keeps every departure, R47. -/
theorem cutOff {d} (h : y.Stays b k) (hd : d = k → (b.departure k).state ≠ .closed) : (y.cutOff env d).2.Stays b k := by
  have marked := (h.withWaiting (w := y.waiting.filter (· ≠ d))).modDep (d := d)
    (g := fun r => { r with callMark := true, marginMark := true, cutMark := true, stalled := false })
    fun _ hr => { hr with stalled := fun _ _ => rfl }
  unfold Yard.cutOff
  exact ((rerouteAll (foldl_keeps (fun hz => hz.removeEntry) marked)).modDep fun hk hr => hr.cutOff (hd hk)).depNote

theorem withdrawEntry {d ref} (h : y.Stays b k) : (y.withdrawEntry env d ref).Stays b k := by
  unfold Yard.withdrawEntry
  simp only
  split
  · split
    · exact h.freeMover.leavePool.leaveLoc.removeEntry.goMissing
    · exact h.leaveLoc.removeEntry.goMissing
  · exact h.leaveLoc.removeEntry.goMissing

end Yard.Stays

end Sys2Proof.Machine

namespace Sys2Proof.Machine

/-! ## The wave boundary, R155 -/

/-- With no door FAULTED a boundary releases none, R126. -/
theorem Yard.waveRelease_none {y : Yard} {env : Env} (h : ∀ n, (y.door n).faulted = false) : y.waveRelease env = y := by
  have hnone : (y.doors.keys.filter fun n =>
      (y.door n).faulted && !(y.door n).condition && (env.plan.doorEntry n).mode == .wave) = [] := by
    simp [h]
  rw [Yard.waveRelease, hnone]
  rfl

/-- A boundary under a method that makes no update point there, and with no door FAULTED, R155. -/
theorem Run.takeBoundary_quiet {r : Run} {m : Nat} (hmethod : r.plan.method.atBoundary = false)
    (hdoors : ∀ n, (r.yard.door n).faulted = false) :
    r.takeBoundary m =
      { r with
        clock := { r.clock with wave := r.clock.wave + 1, lastBoundary := m }
        yard := r.yard.note r.env (r.clock.wave + 1) (.wave m r.plan.active.night.waveLength) } := by
  simp only [Run.takeBoundary, Run.onYard, hmethod, Bool.false_and, Bool.false_eq_true, if_false, Run.boundaryUpdate,
    Run.boundaryRelease]
  rw [Yard.waveRelease_none (by exact hdoors)]
  rfl

/-- An item whose only work has been taken leaves the others waiting. -/
theorem Run.afterEvent_last (r : Run) (taken : WorkItem) :
    r.afterEvent taken (.expiry []) =
      { r with work := { started := none, waiting := r.work.waiting.filter (· ≠ taken) } } := by
  have hfilter : r.work.waiting.filter (fun j => j != taken) = r.work.waiting.filter (· ≠ taken) :=
    List.filter_congr fun j _ => by simp [bne, beq_eq_decide]
  rw [Run.afterEvent, hfilter]
  rfl

/-! ## The end of the clock, R30, R156 -/

/-- One departure's turn in the end-of-clock cut-off, R30. -/
def Yard.endCutOne (y : Yard) (env : Env) (d : Nat) : Yard :=
  if (y.departure d).state.cuttable then ((y.cutOff env d).2).watch env y.toFloor else y

theorem Yard.endCutOff_eq (y : Yard) (env : Env) :
    y.endCutOff env = env.plan.departures.keys.foldl (fun z d => z.endCutOne env d) y := rfl

theorem Yard.Stays.endCutOne {b : Floor} {k d : Nat} {y : Yard} {env : Env} (h : y.Stays b k) :
    (y.endCutOne env d).Stays b k := by
  unfold Yard.endCutOne
  split
  · rename_i hst
    refine (h.cutOff fun hd hclosed => ?_).watch
    rw [hd, h.record.closed.mpr hclosed] at hst
    cases hst
  · exact h

/-- A departure that is not cuttable by default stands in the table. -/
theorem Floor.get_departure {f : Floor} {d : Nat} (h : (f.departure d).state ≠ .closed) :
    f.departures.get d = some (f.departure d) := by
  cases hr : f.departures.get d with
  | some r => rw [Floor.departure_of_get hr]
  | none => exact (h (by simp [Floor.departure, Tab.at, hr, Departure.fresh])).elim

/-- A departure that was not CLOSED is CUT by its cut-off, R47. -/
theorem Yard.cutOff_state {y : Yard} {env : Env} {d : Nat} (h : (y.departure d).state ≠ .closed) :
    ((y.cutOff env d).2.departure d).state = .cut := by
  have marked := ((Yard.Stays.refl d y).withWaiting (w := y.waiting.filter (· ≠ d))).modDep (d := d)
    (g := fun r => { r with callMark := true, marginMark := true, cutMark := true, stalled := false })
    fun _ hr => { hr with stalled := fun _ _ => rfl }
  have removed refs := Yard.Stays.rerouteAll (env := env.muting d) (d := d) (refs := refs)
    (foldl_keeps (l := refs) (g := fun z ref => (z.removeEntry (env.muting d) .cut ref).2) (fun hz => hz.removeEntry) marked)
  have hget refs := Floor.get_departure fun hc => h ((removed refs).record.closed.mp hc)
  unfold Yard.cutOff
  exact congrArg Departure.state (Floor.departure_modDep _ _ (hget _))

/-- Its own turn leaves a departure CUT or CLOSED, R30. -/
theorem Yard.endCutOne_state (y : Yard) (env : Env) (d : Nat) :
    ((y.endCutOne env d).departure d).state = if (y.departure d).state = .closed then .closed else .cut := by
  have hwatch : (((y.cutOff env d).2).watch env y.toFloor).departure d = (y.cutOff env d).2.departure d := by
    rw [show ((y.cutOff env d).2).watch env y.toFloor = _ from Yard.watch_lanesOnly ..]
    rfl
  unfold Yard.endCutOne
  by_cases hcut : (y.departure d).state = .cut
  · rw [hcut, if_neg (by simp [DepState.cuttable]), hcut, if_neg (by simp)]
  by_cases hclosed : (y.departure d).state = .closed
  · rw [hclosed, if_neg (by simp [DepState.cuttable]), hclosed, if_pos rfl]
  · rw [if_pos (DepState.cuttable_of hcut hclosed), hwatch, Yard.cutOff_state hclosed, if_neg hclosed]

/-- The end-of-clock cut-off leaves every departure of the plan CUT or CLOSED, R30. -/
theorem foldl_endCutOne_state {env : Env} {k : Nat} : ∀ {ds : List Nat} (y : Yard), k ∈ ds →
    ((ds.foldl (fun z d => z.endCutOne env d) y).departure k).state =
      if (y.departure k).state = .closed then .closed else .cut
  | d :: rest, y, hk => by
    by_cases hd : k = d
    · subst hd
      have hrest := foldl_keeps (l := rest) (g := fun z d => z.endCutOne env d) (fun hz => hz.endCutOne)
        (Yard.Stays.refl k (y.endCutOne env k))
      have hturn := y.endCutOne_state env k
      rw [List.foldl_cons]
      split at hturn
      · rw [if_pos ‹_›]; exact hrest.record.closed.mpr hturn
      · rw [if_neg ‹_›]; exact hrest.record.cut hturn
    · have hturn := (Yard.Stays.refl k y).endCutOne (env := env) (d := d)
      rw [List.foldl_cons, foldl_endCutOne_state _ ((List.mem_cons.mp hk).resolve_left hd)]
      simp only [hturn.record.closed]

theorem Tab.mem_keys_of_has {α : Type} {t : Tab α} {k : Nat} (h : t.has k = true) : k ∈ t.keys := by
  obtain ⟨v, hv⟩ := Option.isSome_iff_exists.mp h
  have key : ∀ cells : List (Nat × α), cellGet cells k = some v → k ∈ cells.map (·.1) := by
    intro cells
    induction cells with
    | nil => nofun
    | cons c rest ih =>
      obtain ⟨j, u⟩ := c
      intro hget
      by_cases hj : j = k
      · simp [hj]
      · rw [cellGet, if_neg hj] at hget
        exact List.mem_cons_of_mem _ (ih hget)
  exact key t.cells hv

/-- Settles O17. -/
theorem boundariesAndTheEndAreTaken : Obligations.BoundariesAndTheEndAreTaken := by
  refine ⟨fun s since m hstarted hsince hdue hmethod hdoors => ?boundary, fun s y hmay hy =>
    ⟨?ended, fun d r hd hr => ?state, fun d e r n hcells hr hcut hclosed hdeck => ?single⟩⟩
  case boundary =>
    have hat : s.plan.method.atBoundary = false := by rcases hmethod with h | h <;> rw [h] <;> rfl
    refine congrArg Host.Outcome.next ?_
    have hstep : s.toRun.waveStep = (s.toRun.takeBoundary m).afterEvent (.wave since) (.expiry []) := by
      simp only [Run.waveStep, show s.toRun.work.started = none from hstarted,
        show s.toRun.work.boundarySince = some since from hsince, Run.testBoundary, hdue]
    rw [State.onRun, hstep, Run.takeBoundary_quiet hat hdoors, Run.afterEvent_last]
    rfl
  case ended =>
    subst hy
    refine congrArg Host.Outcome.next ?_
    rw [State.onRun, Run.endStep, if_pos hmay, Run.afterEvent_last]
    rfl
  case state =>
    subst hy
    rw [← Floor.departure_of_get hr]
    exact foldl_endCutOne_state _ (Tab.mem_keys_of_has hd)
  case single =>
    subst hy
    have hkeys : s.toRun.env.plan.departures.keys = [d] := congrArg (List.map Prod.fst) hcells
    have hstate : (s.toRun.yard.departure d).state.cuttable = true := by
      rw [show s.toRun.yard.departure d = r from Floor.departure_of_get hr, DepState.cuttable_of hcut hclosed]
    have hcutOff := Yard.cutOff_blank (y := s.toRun.yard) (env := s.toRun.env) hr hdeck
    have hend : s.toRun.yard.endCutOff s.toRun.env = (s.toRun.yard.cutOff s.toRun.env d).2.watch s.toRun.env s.floor := by
      rw [Yard.endCutOff_eq, hkeys]
      exact if_pos hstate
    rw [hcutOff] at hend
    have hquiet := hend.trans (Yard.watch_lanes rfl)
    rw [hquiet]
    exact ⟨rfl, Yard.putDep_get .., fun k hk => Yard.putDep_get_other _ _ hk⟩

end Sys2Proof.Machine

namespace Sys2Proof.Machine

/-! ## Tables: keys, tables rewritten key by key, and tables filtered -/

theorem Tab.has_of_mem_keys {α : Type} {t : Tab α} {k : Nat} (h : k ∈ t.keys) : t.has k = true := by
  have key : ∀ cells : List (Nat × α), k ∈ cells.map (·.1) → (cellGet cells k).isSome = true := by
    intro cells
    induction cells with
    | nil => nofun
    | cons c rest ih =>
      obtain ⟨j, u⟩ := c
      intro hmem
      by_cases hj : j = k
      · simp [cellGet, hj]
      · rw [cellGet, if_neg hj]
        exact ih ((List.mem_cons.mp hmem).resolve_left (Ne.symm hj))
  exact key t.cells h

/-- A key that is not listed stands for the table's default. -/
theorem Tab.at_of_not_mem_keys {α : Type} {d : α} {t : Tab α} {k : Nat} (h : k ∉ t.keys) : Tab.at d t k = d := by
  have hnone : t.get k = none := by
    rw [← Option.not_isSome_iff_eq_none]
    exact fun hs => h (Tab.mem_keys_of_has hs)
  rw [Tab.at, hnone]
  rfl

section

variable {α : Type} [DecidableEq α] (d : α) {g : α → α}

/-- Some keys' values rewritten by a change that, made twice, is made once. -/
theorem Tab.at_foldl_set (hg : ∀ a, g (g a) = g a) (ks : List Nat) (t : Tab α) (k : Nat) :
    Tab.at d (ks.foldl (fun t n => Tab.set d t n (g (Tab.at d t n))) t) k =
      if k ∈ ks then g (Tab.at d t k) else Tab.at d t k := by
  induction ks generalizing t with
  | nil => rfl
  | cons n rest ih =>
    rw [List.foldl_cons, ih]
    by_cases hn : k = n
    · subst hn
      simp [Tab.at_set_same, hg]
    · simp [Tab.at_set_other, hn]

/-- All values rewritten, where the default is not changed. -/
theorem Tab.at_foldl_keys (hg : ∀ a, g (g a) = g a) (hd : g d = d) (t : Tab α) (k : Nat) :
    Tab.at d (t.keys.foldl (fun t n => Tab.set d t n (g (Tab.at d t n))) t) k = g (Tab.at d t k) := by
  rw [Tab.at_foldl_set d hg]
  split
  · rfl
  · rw [Tab.at_of_not_mem_keys ‹_›, hd]

end

/-- No cell before the first holds a value. -/
theorem cellGet_of_above {α : Type} {b k : Nat} (hk : k ≤ b) :
    ∀ {cells : List (Nat × α)}, risesAbove b cells → cellGet cells k = none
  | [], _ => rfl
  | (j, u) :: rest, ⟨hj, hrest⟩ => by
    rw [cellGet, if_neg (by omega)]
    exact cellGet_of_above (by omega) hrest

/-- What is read of a canonical table of which some cells are kept, each changed by `g`. -/
theorem cellGet_filter_map {α β : Type} (p : α → Bool) (g : α → β) (k : Nat) :
    ∀ {cells : List (Nat × α)}, cellsRise cells = true →
      cellGet ((cells.filter fun c => p c.2).map fun c => (c.1, g c.2)) k =
        (cellGet cells k).bind fun a => if p a then some (g a) else none
  | [], _ => rfl
  | (j, u) :: rest, h => by
    rw [cellsRise_cons] at h
    have ih := cellGet_filter_map p g k (cellsRise_of_above h)
    by_cases hj : j = k
    · subst hj
      rw [cellGet_of_above le_rfl h] at ih
      by_cases hp : p u <;> simp [cellGet, hp, ih]
    · by_cases hp : p u <;> simp [cellGet, hp, hj, ih]

/-! ## What NIGHT CLOSE leaves of the other tables, R163 -/

/-- Doors rewritten one after the other. -/
theorem Yard.foldl_setDoor (g : Door → Door) (ns : List Nat) (y : Yard) :
    ns.foldl (fun z n => z.setDoor n (g (z.door n))) y =
      { y with doors := ns.foldl (fun t n => t.set Door.reset n (g (t.at Door.reset n))) y.doors } := by
  induction ns generalizing y with
  | nil => rfl
  | cons n rest ih => exact ih _

theorem Yard.foldl_setMover (g : Mover → Mover) (ms : List Nat) (y : Yard) :
    ms.foldl (fun z m => z.setMover m (g (z.mover m))) y =
      { y with movers := ms.foldl (fun t m => t.set Mover.reset m (g (t.at Mover.reset m))) y.movers } := by
  induction ms generalizing y with
  | nil => rfl
  | cons m rest ih => exact ih _

theorem Yard.foldl_setLane (g : Lane → Lane) (ls : List Nat) (y : Yard) :
    ls.foldl (fun z l => z.setLane l (g (z.lane l))) y =
      { y with lanes := ls.foldl (fun t l => t.set Lane.reset l (g (t.at Lane.reset l))) y.lanes } := by
  induction ls generalizing y with
  | nil => rfl
  | cons l rest ih => exact ih _

theorem Door.endedQuietly_endedQuietly (r : Door) : r.endedQuietly.endedQuietly = r.endedQuietly := by
  obtain ⟨u, _, _, _⟩ := r
  cases u <;> rfl

theorem Mover.sentOff_state (m : Mover) : m.sentOff.state = .off := by
  unfold Mover.sentOff
  split <;> rfl

theorem Mover.sentOff_sentOff (m : Mover) : m.sentOff.sentOff = m.sentOff := by
  obtain ⟨st, _⟩ := m
  cases st <;> rfl

/-- R163 steps 3 to 5, table by table. -/
theorem Yard.clearNight_eq (y : Yard) : ∃ doors movers lanes,
    y.clearNight =
      { y with
        doors := doors, movers := movers, lanes := lanes
        tasks := .empty, queues := .empty, issued := [], backlog := [] } ∧
      (∀ n, Tab.at Door.reset doors n = (y.door n).endedQuietly) ∧
      (∀ m, Tab.at Mover.reset movers m = (y.mover m).sentOff) ∧
      (∀ l, Tab.at Lane.reset lanes l = (y.lane l).emptied) := by
  refine ⟨_, _, _, ?_, Tab.at_foldl_keys _ Door.endedQuietly_endedQuietly rfl y.doors,
    Tab.at_foldl_keys _ Mover.sentOff_sentOff rfl y.movers, Tab.at_foldl_keys (g := Lane.emptied) _ (fun _ => rfl) rfl y.lanes⟩
  simp only [Yard.clearNight, Yard.foldl_setDoor, Yard.foldl_setMover, Yard.foldl_setLane]

/-! ## Tips are closed, R162 step 1 -/

theorem Yard.closeTip_eq (y : Yard) (env : Env) (n : Nat) : ∃ notes,
    y.closeTip env n =
      { y with doors := y.doors.set Door.reset n { y.door n with underlying := .inboundFree }, notes := notes } := by
  unfold Yard.closeTip
  simp only
  split
  · exact ⟨_, rfl⟩
  · split <;> exact ⟨_, rfl⟩

/-- The doors given up by tips that are closed, R61; nothing else but reports changes. -/
theorem Yard.foldl_closeTip (env : Env) (ns : List Nat) (y : Yard) : ∃ doors notes,
    ns.foldl (fun z n => z.closeTip env n) y = { y with doors := doors, notes := notes } ∧
      ∀ n, Tab.at Door.reset doors n = if n ∈ ns then { y.door n with underlying := .inboundFree } else y.door n := by
  induction ns generalizing y with
  | nil => exact ⟨y.doors, y.notes, rfl, fun n => rfl⟩
  | cons first rest ih =>
    obtain ⟨notes₁, hfirst⟩ := y.closeTip_eq env first
    obtain ⟨doors, notes, hfold, hdoors⟩ := ih (y.closeTip env first)
    refine ⟨doors, notes, by rw [List.foldl_cons, hfold, hfirst], fun n => ?_⟩
    rw [hdoors n, hfirst]
    by_cases hn : n = first
    · simp [hn, Floor.door]
    · simp [hn, Floor.door, Tab.at_set_other]

theorem Floor.mem_tipping {f : Floor} {n : Nat} : n ∈ f.tipping ↔ (f.door n).underlying = .tipping := by
  rw [Floor.tipping, List.mem_filter, beq_iff_eq]
  refine ⟨And.right, fun h => ⟨?_, h⟩⟩
  by_contra hn
  rw [Floor.door, Tab.at_of_not_mem_keys hn] at h
  cases h

end Sys2Proof.Machine

namespace Sys2Proof.Machine

/-! ## Closing in two parts, R50 -/

/-- The floor on which a closing clears the deck: the cut-off where it was due, and the withdrawals, R50 steps 1 and 2. -/
def Yard.emptied (y : Yard) (env : Env) (d : Nat) : Yard :=
  let z := if (y.departure d).state = .cut then y else (y.cutOff env d).2
  (((z.deck d).slots.filter fun s => s.entry.status != .loaded).map (·.entry.ref)).foldl
    (fun z ref => z.withdrawEntry env d ref) z

/-- The record of a departure that is closed, R50 step 4, R51. -/
def Departure.closedAt (r : Departure) (minute : Nat) : Departure :=
  { r with hold := false, stalled := false, departMinute := some minute, state := .closed }

/-- R50 steps 3 to 6: the deck is cleared, the record closed and the door given up. -/
def Yard.closedOff (y : Yard) (env : Env) (d : Nat) : Yard :=
  let z := (y.clearDeck d).modDep d fun r => r.closedAt env.minute
  if (z.departure d).doorTaken then z.giveUpDoor env d else z

/-- Closing, in the two parts. -/
theorem Yard.close_eq (y : Yard) (env : Env) (d : Nat) : ∃ note,
    (y.close env d).2 = ((y.emptied env d).closedOff env d).note env d note := ⟨_, rfl⟩

/-! ### The first part keeps every departure -/

theorem Yard.Stays.emptied {b : Floor} {k d : Nat} {y : Yard} {env : Env} (h : y.Stays b k)
    (hd : d = k → (b.departure k).state ≠ .closed) : (y.emptied env d).Stays b k := by
  unfold Yard.emptied
  simp only
  split
  · exact foldl_keeps withdrawEntry h
  · exact foldl_keeps withdrawEntry (h.cutOff hd)

/-! ### The second part -/

/-- What the clearing of the deck leaves, R25. -/
theorem Yard.clearDeck_eq (y : Yard) (d : Nat) : ∃ p t,
    y.clearDeck d =
      { y with pallets := p, tasks := t, decks := y.decks.put d (Deck.blank (y.deck d).places.length) } ∧
      p = (((y.deck d).slots.map (·.entry.ref)).foldl (fun z ref => z.freePallet ref) y).pallets := by
  obtain ⟨p, t, hfold, -, -⟩ := Yard.foldl_freePallet ((y.deck d).slots.map (·.entry.ref)) y
  exact ⟨p, t, by simp only [Yard.clearDeck, hfold]; rfl, by rw [hfold]⟩

section

variable {y : Yard} {env : Env} {d : Nat} {e : DepartureEntry} {r : Departure} (he : env.depEntry d = some e)
  (hr : y.departures.get d = some r)

include he hr

/-- What closing does to the departure's record, deck map and door, and to the pallet records, R50, R51, R122. -/
theorem Yard.closedOff_eq : ∃ p t doors,
    y.closedOff env d =
      { y with
        pallets := p, tasks := t, doors := doors
        decks := y.decks.put d (Deck.blank (y.deck d).places.length)
        departures := y.departures.put d { r.closedAt env.minute with doorTaken := false } } ∧
      p = (((y.deck d).slots.map (·.entry.ref)).foldl (fun z ref => z.freePallet ref) y).pallets ∧
      doors = if r.doorTaken then
        y.doors.set Door.reset e.door
          { y.door e.door with underlying := .changeover (env.minute + (env.plan.doorEntry e.door).gap) }
      else y.doors := by
  obtain ⟨p, t, hclear, hp⟩ := y.clearDeck_eq d
  have hget : (y.clearDeck d).departures.get d = some r := by rw [hclear]; exact hr
  refine ⟨p, t, _, ?_, hp, rfl⟩
  unfold Yard.closedOff
  rw [Yard.modDep_of_get _ hget]
  simp only [Yard.putDep_departure]
  by_cases hdoor : r.doorTaken = true
  · have htaken : (r.closedAt env.minute).doorTaken = true := hdoor
    rw [if_pos htaken, if_pos hdoor, hclear]
    simp only [Yard.giveUpDoor, he, Yard.putDep, Yard.modDep, Yard.setDoor, Tab.modify_put]
    rfl
  · have hfree : (r.closedAt env.minute).doorTaken = false := Bool.not_eq_true _ ▸ hdoor
    have hsame : ({ r.closedAt env.minute with doorTaken := false } : Departure) = r.closedAt env.minute := by
      rw [← hfree]
    rw [if_neg (by simp [hfree]), if_neg hdoor, hclear, hsame]
    rfl

/-- No door but the departure's own is given up, and that one only to its changeover. -/
theorem Yard.closedOff_doors (n : Nat) : (y.door n).Eased ((y.closedOff env d).door n) := by
  obtain ⟨p, t, doors, hclosed, -, hdoors⟩ := Yard.closedOff_eq he hr
  rw [hclosed]
  change (y.door n).Eased (Tab.at Door.reset doors n)
  rw [hdoors]
  split
  · by_cases hn : n = e.door
    · subst hn
      rw [Tab.at_set_same]
      exact ⟨.inr ⟨_, rfl⟩, rfl, rfl, rfl⟩
    · rw [Tab.at_set_other _ _ _ hn]
      exact .refl _
  · exact .refl _

/-- Closing another departure keeps this one. -/
theorem Yard.Stays.closedOff {b : Floor} {k : Nat} (h : y.Stays b k) (hd : d ≠ k) : (y.closedOff env d).Stays b k := by
  have hdoors := Yard.closedOff_doors he hr
  obtain ⟨p, t, doors, hclosed, -, -⟩ := Yard.closedOff_eq he hr
  have hrecord : (y.closedOff env d).departure k = y.departure k := by
    rw [hclosed]
    exact Tab.at_put_other _ _ _ (Ne.symm hd)
  have hdeck : (y.closedOff env d).deck k = y.deck k := by
    rw [hclosed]
    exact Tab.at_put_other _ _ _ (Ne.symm hd)
  exact ⟨hrecord ▸ h.record, hdeck ▸ h.places, hdeck ▸ h.blank, fun n => (h.doors n).trans (hdoors n)⟩

end

/-! ### Closing as a whole -/

/-- Departure `k` has been closed at `minute`, its deck map of `n` positions emptied, R51. -/
structure Yard.ClosedOut (minute k n : Nat) (y : Yard) : Prop where
  state : (y.departure k).state = .closed
  departMinute : (y.departure k).departMinute = some minute
  hold : (y.departure k).hold = false
  stalled : (y.departure k).stalled = false
  doorTaken : (y.departure k).doorTaken = false
  deck : y.deck k = Deck.blank n

/-- A closed departure stays so. -/
theorem Yard.ClosedOut.stays {minute k n : Nat} {y z : Yard} (h : y.ClosedOut minute k n) (hz : z.Stays y.toFloor k) :
    z.ClosedOut minute k n := by
  have hfinal : (y.departure k).state.cuttable = false := by rw [h.state]; rfl
  exact ⟨hz.record.closed.mpr h.state, hz.record.departMinute.trans h.departMinute, hz.record.hold.trans h.hold,
    hz.record.stalled hfinal h.stalled, hz.record.doorTaken.trans h.doorTaken, hz.blank hfinal n h.deck⟩

theorem Yard.emptied_get {y : Yard} {env : Env} {d : Nat} (hopen : (y.departure d).state ≠ .closed) :
    (y.emptied env d).departures.get d = some ((y.emptied env d).departure d) :=
  Floor.get_departure fun hc => hopen (((Yard.Stays.refl d y).emptied fun _ => hopen).record.closed.mp hc)

section

variable {y : Yard} {env : Env} {d : Nat} {e : DepartureEntry} (he : env.depEntry d = some e)
  (hopen : (y.departure d).state ≠ .closed)

include he hopen

/-- Closing another departure keeps this one, R50. -/
theorem Yard.Stays.close {b : Floor} {k : Nat} (h : y.Stays b k) (hd : d ≠ k) : (y.close env d).2.Stays b k := by
  obtain ⟨note, hclose⟩ := y.close_eq env d
  rw [hclose]
  exact ((h.emptied fun hk => (hd hk).elim).closedOff he (Yard.emptied_get hopen) hd).note

theorem Yard.close_doors (n : Nat) : (y.door n).Eased ((y.close env d).2.door n) :=
  ((Yard.Stays.refl (d + 1) y).close he hopen (by omega)).doors n

/-- Closing closes its own departure, R50, R51. -/
theorem Yard.close_closedOut : (y.close env d).2.ClosedOut env.minute d (y.deck d).places.length := by
  have hstays := (Yard.Stays.refl d y).emptied (env := env) (d := d) fun _ => hopen
  obtain ⟨note, hclose⟩ := y.close_eq env d
  obtain ⟨p, t, doors, hclosed, -, -⟩ := Yard.closedOff_eq he (Yard.emptied_get hopen)
  have hrecord : (y.close env d).2.departure d =
      { ((y.emptied env d).departure d).closedAt env.minute with doorTaken := false } := by
    rw [hclose, hclosed]
    exact Tab.at_put_same ..
  have hdeck : (y.close env d).2.deck d = Deck.blank (y.deck d).places.length := by
    rw [hclose, hclosed, ← hstays.places]
    exact Tab.at_put_same ..
  exact ⟨by rw [hrecord]; rfl, by rw [hrecord]; rfl, by rw [hrecord]; rfl, by rw [hrecord]; rfl, by rw [hrecord], hdeck⟩

/-- A door that the departure held goes into CHANGEOVER, R122. -/
theorem Yard.close_door (hdoor : (y.departure d).doorTaken = true) :
    ∃ till, ((y.close env d).2.door e.door).underlying = .changeover till := by
  have hstays := (Yard.Stays.refl d y).emptied (env := env) (d := d) fun _ => hopen
  obtain ⟨note, hclose⟩ := y.close_eq env d
  obtain ⟨p, t, doors, hclosed, -, hdoors⟩ := Yard.closedOff_eq he (Yard.emptied_get hopen)
  rw [if_pos (hstays.record.doorTaken.trans hdoor)] at hdoors
  refine ⟨env.minute + (env.plan.doorEntry e.door).gap, ?_⟩
  rw [hclose, hclosed, hdoors]
  exact congrArg Door.underlying (Tab.at_set_same ..)

end

/-! ## All departures are closed, R162 step 2 -/

theorem closeAll_closed {env : Env} {d : Nat} {rest : List Nat} {y : Yard} (h : (y.departure d).state = .closed) :
    closeAll env (d :: rest) y = closeAll env rest y := by
  rw [closeAll, if_pos h]

theorem closeAll_open {env : Env} {d : Nat} {rest : List Nat} {y : Yard} (h : (y.departure d).state ≠ .closed) :
    (closeAll env (d :: rest) y).2 = (closeAll env rest (y.close env d).2).2 := by
  rw [closeAll, if_neg h]

section

variable {env : Env}

/-- A departure that is CLOSED, or not of those to close, stays as it is. -/
theorem Yard.Stays.closeAll {b : Floor} {k : Nat} : ∀ {ds : List Nat} {y : Yard}, y.Stays b k →
    (∀ d ∈ ds, env.depEntry d ≠ none) → (k ∈ ds → (b.departure k).state = .closed) → (closeAll env ds y).2.Stays b k
  | [], _, h, _, _ => h
  | d :: rest, y, h, hds, hk => by
    have hrest := fun hmem => hk (List.mem_cons_of_mem d hmem)
    have hentries := fun x hx => hds x (List.mem_cons_of_mem d hx)
    by_cases hclosed : (y.departure d).state = .closed
    · rw [closeAll_closed hclosed]
      exact closeAll h hentries hrest
    · obtain ⟨e, he⟩ := Option.ne_none_iff_exists'.mp (hds d List.mem_cons_self)
      rw [closeAll_open hclosed]
      refine closeAll (h.close he hclosed ?_) hentries hrest
      rintro rfl
      exact hclosed (h.record.closed.mpr (hk List.mem_cons_self))

/-- Doors go into CHANGEOVER at most. -/
theorem closeAll_doors (n : Nat) : ∀ {ds : List Nat} {y : Yard}, (∀ d ∈ ds, env.depEntry d ≠ none) →
    (y.door n).Eased ((closeAll env ds y).2.door n)
  | [], _, _ => .refl _
  | d :: rest, y, hds => by
    have hentries := fun x hx => hds x (List.mem_cons_of_mem d hx)
    by_cases hclosed : (y.departure d).state = .closed
    · rw [closeAll_closed hclosed]
      exact closeAll_doors n hentries
    · obtain ⟨e, he⟩ := Option.ne_none_iff_exists'.mp (hds d List.mem_cons_self)
      rw [closeAll_open hclosed]
      exact (Yard.close_doors he hclosed n).trans (closeAll_doors n hentries)

/-- Every departure of the list that was not CLOSED is closed, and a door that it held is in CHANGEOVER. -/
theorem closeAll_closedOut {k : Nat} {e : DepartureEntry} (he : env.depEntry k = some e) : ∀ {ds : List Nat} {y : Yard},
    (∀ d ∈ ds, env.depEntry d ≠ none) → k ∈ ds → (y.departure k).state ≠ .closed →
      (closeAll env ds y).2.ClosedOut env.minute k (y.deck k).places.length ∧
      ((y.departure k).doorTaken = true → ∃ till, ((closeAll env ds y).2.door e.door).underlying = .changeover till)
  | d :: rest, y, hds, hk, hopen => by
    have hentries := fun x hx => hds x (List.mem_cons_of_mem d hx)
    by_cases hd : d = k
    · subst hd
      have hout := Yard.close_closedOut he hopen
      rw [closeAll_open hopen]
      refine ⟨hout.stays ((Yard.Stays.refl d _).closeAll hentries fun _ => hout.state), fun hdoor => ?_⟩
      obtain ⟨till, htill⟩ := Yard.close_door he hopen hdoor
      rcases (closeAll_doors e.door hentries (y := (y.close env d).2)).underlying with hsame | hlater
      · exact ⟨till, hsame.trans htill⟩
      · exact hlater
    · have hrest := (List.mem_cons.mp hk).resolve_left (Ne.symm hd)
      by_cases hclosed : (y.departure d).state = .closed
      · rw [closeAll_closed hclosed]
        exact closeAll_closedOut he hentries hrest hopen
      · obtain ⟨e', he'⟩ := Option.ne_none_iff_exists'.mp (hds d List.mem_cons_self)
        have hstays := (Yard.Stays.refl k y).close he' hclosed hd
        rw [closeAll_open hclosed, ← hstays.places, ← hstays.record.doorTaken]
        exact closeAll_closedOut he hentries hrest fun hc => hopen (hstays.record.closed.mp hc)

end

/-! ## The records where no departure has an entry to withdraw -/

/-- Departure `d` is CLOSED, or CUT with all its entries LOADED. -/
def Floor.closable (f : Floor) (d : Nat) : Prop :=
  (f.departure d).state = .closed ∨ (f.departure d).state = .cut ∧ ∀ x ∈ (f.deck d).slots, x.entry.status = .loaded

/-- The pallet `ref` is aboard departure `d`, which is CUT. -/
def Floor.aboardCut (f : Floor) (ref d : Nat) : Prop :=
  (f.departure d).state = .cut ∧ ∃ x ∈ (f.deck d).slots, x.entry.ref = ref

/-- Both depend on the departure's record and deck map alone. -/
theorem Floor.closable_congr {f g : Floor} {k : Nat} (hrecord : f.departure k = g.departure k) (hdeck : f.deck k = g.deck k) :
    f.closable k ↔ g.closable k := by
  rw [Floor.closable, Floor.closable, hrecord, hdeck]

theorem Floor.aboardCut_congr {f g : Floor} {ref k : Nat} (hrecord : f.departure k = g.departure k)
    (hdeck : f.deck k = g.deck k) : f.aboardCut ref k ↔ g.aboardCut ref k := by
  rw [Floor.aboardCut, Floor.aboardCut, hrecord, hdeck]

theorem Floor.not_aboardCut {f : Floor} {ref d : Nat} (h : (f.departure d).state = .closed) : ¬f.aboardCut ref d :=
  fun hab => by rw [hab.1] at h; cases h

section

variable {y : Yard} {env : Env} {d : Nat} {e : DepartureEntry} (hcut : (y.departure d).state = .cut)
  (hloaded : ∀ x ∈ (y.deck d).slots, x.entry.status = .loaded)

include hcut hloaded

/-- A CUT departure with nothing but LOADED entries has nothing cut off or withdrawn. -/
theorem Yard.emptied_loaded : y.emptied env d = y := by
  have hmissing : (y.deck d).slots.filter (fun s => s.entry.status != .loaded) = [] := by
    simpa [List.filter_eq_nil_iff] using hloaded
  simp only [Yard.emptied, if_pos hcut, hmissing]
  rfl

variable (he : env.depEntry d = some e)

include he

/-- Its closing touches no other departure. -/
theorem Yard.close_loaded_other {k : Nat} (hk : k ≠ d) :
    (y.close env d).2.departure k = y.departure k ∧ (y.close env d).2.deck k = y.deck k := by
  have hget := Floor.get_departure (f := y.toFloor) (d := d) (by simp [hcut])
  obtain ⟨note, hclose⟩ := y.close_eq env d
  obtain ⟨p, t, doors, hclosed, -, -⟩ := Yard.closedOff_eq he hget
  rw [hclose, Yard.emptied_loaded hcut hloaded, hclosed]
  exact ⟨Tab.at_put_other _ _ _ hk, Tab.at_put_other _ _ _ hk⟩

theorem Yard.close_loaded_pallets : (y.close env d).2.pallets =
    (((y.deck d).slots.map (·.entry.ref)).foldl (fun z ref => z.freePallet ref) y).pallets := by
  have hget := Floor.get_departure (f := y.toFloor) (d := d) (by simp [hcut])
  obtain ⟨note, hclose⟩ := y.close_eq env d
  obtain ⟨p, t, doors, hclosed, hp, -⟩ := Yard.closedOff_eq he hget
  rw [hclose, Yard.emptied_loaded hcut hloaded, hclosed]
  exact hp

/-- It frees the records of the pallets aboard, R25. -/
theorem Yard.close_loaded_records (ref : Nat) :
    (y.aboardCut ref d → (y.close env d).2.pallets.get ref = none) ∧
      (¬y.aboardCut ref d → (y.close env d).2.pallets.get ref = y.pallets.get ref) := by
  obtain ⟨p, t, hfold, hfreed, hkept⟩ := Yard.foldl_freePallet ((y.deck d).slots.map (·.entry.ref)) y
  rw [Yard.close_loaded_pallets hcut hloaded he, hfold]
  refine ⟨fun ⟨_, x, hx, hxref⟩ => hfreed _ (List.mem_map.mpr ⟨x, hx, hxref⟩), fun hnot => hkept _ fun hmem => ?_⟩
  obtain ⟨x, hx, hxref⟩ := List.mem_map.mp hmem
  exact hnot ⟨hcut, x, hx, hxref⟩

theorem Yard.close_loaded_wf (hwf : y.pallets.wf = true) : (y.close env d).2.pallets.wf = true := by
  rw [Yard.close_loaded_pallets hcut hloaded he]
  exact foldl_keeps (P := fun z : Yard => z.pallets.wf = true) (g := fun z ref => z.freePallet ref)
    (fun hz => Tab.wf_erase _ _ hz) hwf

end

/-- What closing such departures leaves of the records: those aboard are freed and the others stay, R25. -/
theorem closeAll_records {env : Env} : ∀ {ds : List Nat} {y : Yard}, (∀ d ∈ ds, env.depEntry d ≠ none) →
    (∀ d ∈ ds, y.closable d) → y.pallets.wf = true →
    (closeAll env ds y).2.pallets.wf = true ∧
      ∀ ref, ((∃ d ∈ ds, y.aboardCut ref d) → (closeAll env ds y).2.pallets.get ref = none) ∧
        ((∀ d ∈ ds, ¬y.aboardCut ref d) → (closeAll env ds y).2.pallets.get ref = y.pallets.get ref)
  | [], _, _, _, hwf => ⟨hwf, fun _ => ⟨by simp, fun _ => rfl⟩⟩
  | d :: rest, y, hds, hready, hwf => by
    have hentries := fun x hx => hds x (List.mem_cons_of_mem d hx)
    have htail := fun x hx => hready x (List.mem_cons_of_mem d hx)
    rcases hready d List.mem_cons_self with hclosed | ⟨hcut, hloaded⟩
    · obtain ⟨hwf', hrecords⟩ := closeAll_records hentries htail hwf
      rw [closeAll_closed hclosed]
      refine ⟨hwf', fun ref => ⟨fun ⟨k, hk, hab⟩ => (hrecords ref).1 ⟨k, ?_, hab⟩, fun h => (hrecords ref).2 fun k hk =>
        h k (List.mem_cons_of_mem d hk)⟩⟩
      exact (List.mem_cons.mp hk).resolve_left (by rintro rfl; exact Floor.not_aboardCut hclosed hab)
    · obtain ⟨e, he⟩ := Option.ne_none_iff_exists'.mp (hds d List.mem_cons_self)
      have hopen : (y.departure d).state ≠ .closed := by simp [hcut]
      have hclosed := (Yard.close_closedOut he hopen).state
      have hother {k} (hk : k ≠ d) := Yard.close_loaded_other hcut hloaded he hk
      have haboard {ref k} (hk : k ≠ d) : (y.close env d).2.aboardCut ref k ↔ y.aboardCut ref k :=
        Floor.aboardCut_congr (hother hk).1 (hother hk).2
      have hready₁ : ∀ k ∈ rest, (y.close env d).2.closable k := fun k hk => by
        by_cases hkd : k = d
        · rw [hkd]
          exact Or.inl hclosed
        · exact (Floor.closable_congr (hother hkd).1 (hother hkd).2).mpr (htail k hk)
      obtain ⟨hwf', hrecords⟩ := closeAll_records hentries hready₁ (Yard.close_loaded_wf hcut hloaded he hwf)
      rw [closeAll_open hopen]
      refine ⟨hwf', fun ref => ?_⟩
      obtain ⟨hfreed, hkept⟩ := Yard.close_loaded_records (env := env) hcut hloaded he ref
      refine ⟨fun ⟨k, hk, hab⟩ => ?_, fun h => ?_⟩
      · by_cases hlater : ∃ k ∈ rest, (y.close env d).2.aboardCut ref k
        · exact (hrecords ref).1 hlater
        · rw [(hrecords ref).2 fun k hk hab => hlater ⟨k, hk, hab⟩]
          refine hfreed ?_
          by_cases hkd : k = d
          · rwa [hkd] at hab
          · exact (hlater ⟨k, (List.mem_cons.mp hk).resolve_left hkd, (haboard hkd).mpr hab⟩).elim
      · rw [(hrecords ref).2 fun k hk hab => ?_, hkept (h d List.mem_cons_self)]
        by_cases hkd : k = d
        · rw [hkd] at hab
          exact Floor.not_aboardCut hclosed hab
        · exact h k (List.mem_cons_of_mem d hk) ((haboard hkd).mp hab)

end Sys2Proof.Machine

namespace Sys2Proof.Machine

/-! ## NIGHT CLOSE, R162, R163 -/

/-- The floor on which every tip has been closed, R162 step 1. -/
def Yard.tipsClosed (y : Yard) (env : Env) : Yard := y.tipping.foldl (fun z n => z.closeTip env n) y

/-- The floor on which every departure of the plan has then been closed, R162 step 2. -/
def Yard.nightClosed (y : Yard) (env : Env) : Yard := (closeAll env env.plan.departures.keys (y.tipsClosed env)).2

/-- A door at which a tip that was open has been closed, R61. -/
def Door.tipClosed (r : Door) : Door := if r.underlying = .tipping then { r with underlying := .inboundFree } else r

theorem Yard.tipsClosed_eq (y : Yard) (env : Env) : ∃ doors notes,
    y.tipsClosed env = { y with doors := doors, notes := notes } ∧
      ∀ n, Tab.at Door.reset doors n = (y.door n).tipClosed := by
  obtain ⟨doors, notes, hfold, hdoors⟩ := Yard.foldl_closeTip env y.tipping y
  refine ⟨doors, notes, hfold, fun n => ?_⟩
  rw [hdoors n]
  simp only [Floor.mem_tipping, Door.tipClosed]

/-! ### Doors -/

theorem Door.tipClosed_underlying_ne (r : Door) : r.tipClosed.underlying ≠ .tipping := by
  unfold Door.tipClosed
  split
  · nofun
  · assumption

theorem Door.tipClosed_occupied {r : Door} {d : Nat} (h : r.tipClosed.underlying = .occupied d) :
    r.underlying = .occupied d := by
  unfold Door.tipClosed at h
  split at h
  · cases h
  · exact h

theorem Door.tipClosed_fault (r : Door) :
    r.tipClosed.faulted = r.faulted ∧ r.tipClosed.condition = r.condition ∧ r.tipClosed.faultMinute = r.faultMinute := by
  unfold Door.tipClosed
  split <;> exact ⟨rfl, rfl, rfl⟩

theorem Door.endedQuietly_of_changeover {r : Door} {till : Nat} (h : r.underlying = .changeover till) :
    r.endedQuietly = { r with underlying := .outboundFree } := by
  simp only [Door.endedQuietly, h]

theorem Door.endedQuietly_of_not {r : Door} (h : ∀ till, r.underlying ≠ .changeover till) : r.endedQuietly = r := by
  unfold Door.endedQuietly
  split
  · exact (h _ ‹_›).elim
  all_goals rfl

/-- What NIGHT CLOSE makes of a door, R162, R163, R129. -/
theorem Door.Eased.closedNight {a r : Door} (h : a.tipClosed.Eased r) :
    r.endedQuietly.underlying ≠ .tipping ∧ (∀ m, r.endedQuietly.underlying ≠ .changeover m) ∧
      (∀ d, r.endedQuietly.underlying = .occupied d → a.underlying = .occupied d) ∧
      r.endedQuietly.faulted = a.faulted ∧ r.endedQuietly.condition = a.condition ∧
      r.endedQuietly.faultMinute = a.faultMinute := by
  obtain ⟨hfaulted, hcondition, hminute⟩ := a.tipClosed_fault
  by_cases hover : ∃ till, r.underlying = .changeover till
  · obtain ⟨till, htill⟩ := hover
    rw [Door.endedQuietly_of_changeover htill]
    exact ⟨nofun, nofun, nofun, h.faulted.trans hfaulted, h.condition.trans hcondition, h.faultMinute.trans hminute⟩
  · have hsame := h.underlying.resolve_right hover
    rw [Door.endedQuietly_of_not fun till htill => hover ⟨till, htill⟩]
    exact ⟨hsame ▸ a.tipClosed_underlying_ne, fun m hm => hover ⟨m, hm⟩, fun d hd =>
      Door.tipClosed_occupied (hsame.symm.trans hd), h.faulted.trans hfaulted, h.condition.trans hcondition,
      h.faultMinute.trans hminute⟩

/-! ### Records -/

/-- The records that NIGHT CLOSE frees, R59. -/
theorem Pallet.freedAtClose_iff {p : Pallet} :
    p.freedAtClose = true ↔ p.state = .exception ∨ p.state = .missing ∨ p.state = .inTransit ∧ p.reason ≠ none := by
  unfold Pallet.freedAtClose
  cases p.state <;> simp [Option.isSome_iff_ne_none]

/-- A record after NIGHT CLOSE, R163 step 6. -/
theorem Floor.keptPallets_get {f : Floor} (hwf : f.pallets.wf = true) (ref : Nat) :
    Tab.get ⟨f.keptPallets⟩ ref =
      (f.pallets.get ref).bind fun p => if !p.freedAtClose then some p.carried else none :=
  cellGet_filter_map (fun p : Pallet => !p.freedAtClose) Pallet.carried ref hwf

theorem Floor.mem_keptPallets {f : Floor} {c : Nat × Pallet} (h : c ∈ f.keptPallets) :
    c.2.state = .held ∧ c.2.loc = some (.floor 1) := by
  obtain ⟨c', -, rfl⟩ := List.mem_map.mp h
  exact ⟨rfl, rfl⟩

/-! ### The request -/

/-- NIGHT CLOSE in an open night, R162, R163. -/
theorem answerNightClose_open {r : Run} (hopen : r.clock.isOpen = true) : ∃ result,
    answerNightClose [] r =
      .done result { r with
        yard := { (r.yard.nightClosed r.env).clearNight with
          pallets := ⟨(r.yard.nightClosed r.env).clearNight.keptPallets⟩ }
        clock := { r.clock with isOpen := false } } := by
  unfold answerNightClose
  rw [if_neg (by simp), if_neg (by simp [hopen])]
  have hplan : r.env.plan = r.plan.active := rfl
  simp only [Yard.nightClosed, Yard.tipsClosed, hplan]
  exact ⟨_, rfl⟩

section

variable (y : Yard) (env : Env)

/-- The plan names its own departures. -/
theorem Env.depEntry_of_mem_keys {d : Nat} (h : d ∈ env.plan.departures.keys) : env.depEntry d ≠ none :=
  Option.isSome_iff_ne_none.mp (Tab.has_of_mem_keys h)

/-- Closing tips touches no departure. -/
theorem Yard.tipsClosed_stays (k : Nat) :
    (y.tipsClosed env).departure k = y.departure k ∧ (y.tipsClosed env).deck k = y.deck k ∧
      (y.tipsClosed env).pallets = y.pallets := by
  obtain ⟨doors, notes, hfold, -⟩ := y.tipsClosed_eq env
  rw [hfold]
  exact ⟨rfl, rfl, rfl⟩

theorem Yard.nightClosed_door (n : Nat) : (y.door n).tipClosed.Eased ((y.nightClosed env).door n) := by
  obtain ⟨doors, notes, hfold, hdoors⟩ := y.tipsClosed_eq env
  have hdoor : (y.tipsClosed env).door n = (y.door n).tipClosed := by
    rw [hfold]
    exact hdoors n
  rw [← hdoor]
  exact closeAll_doors n fun d hd => env.depEntry_of_mem_keys hd

/-- Every departure of the plan is CLOSED, and one that was not is closed now, its door given up, R162. -/
theorem Yard.nightClosed_departure {d : Nat} {e : DepartureEntry} (he : env.plan.departures.get d = some e) :
    ((y.nightClosed env).departure d).state = .closed ∧
      ((y.departure d).state ≠ .closed →
        (y.nightClosed env).ClosedOut env.minute d (y.deck d).places.length ∧
        ((y.departure d).doorTaken = true → ∃ till, ((y.nightClosed env).door e.door).underlying = .changeover till)) := by
  have hkeys : d ∈ env.plan.departures.keys := Tab.mem_keys_of_has (Option.isSome_iff_exists.mpr ⟨e, he⟩)
  have hentries : ∀ k ∈ env.plan.departures.keys, env.depEntry k ≠ none := fun k hk => env.depEntry_of_mem_keys hk
  obtain ⟨hrecord, hdeck, -⟩ := y.tipsClosed_stays env d
  rw [← hrecord, ← hdeck]
  have hout := closeAll_closedOut (y := y.tipsClosed env) he hentries hkeys
  by_cases hclosed : ((y.tipsClosed env).departure d).state = .closed
  · have hstays := (Yard.Stays.refl d (y.tipsClosed env)).closeAll hentries fun _ => hclosed
    exact ⟨hstays.record.closed.mpr hclosed, fun hne => (hne hclosed).elim⟩
  · exact ⟨(hout hclosed).1.state, fun _ => hout hclosed⟩

/-- The records that closing the departures leaves where none has an entry to withdraw, R162 step 2. -/
theorem Yard.nightClosed_records (hwf : y.pallets.wf = true) (hready : ∀ d ∈ env.plan.departures.keys, y.closable d) :
    (y.nightClosed env).pallets.wf = true ∧
      ∀ ref, ((∃ d ∈ env.plan.departures.keys, y.aboardCut ref d) → (y.nightClosed env).pallets.get ref = none) ∧
        ((∀ d ∈ env.plan.departures.keys, ¬y.aboardCut ref d) →
          (y.nightClosed env).pallets.get ref = y.pallets.get ref) := by
  have hstays := y.tipsClosed_stays env
  have haboard {ref d} : (y.tipsClosed env).aboardCut ref d ↔ y.aboardCut ref d :=
    Floor.aboardCut_congr (hstays d).1 (hstays d).2.1
  have hclosable : ∀ d ∈ env.plan.departures.keys, (y.tipsClosed env).closable d := fun d hd =>
    (Floor.closable_congr (hstays d).1 (hstays d).2.1).mpr (hready d hd)
  have hrecords := closeAll_records (fun d hd => env.depEntry_of_mem_keys hd) hclosable ((hstays 0).2.2 ▸ hwf)
  simp only [haboard, (hstays 0).2.2] at hrecords
  exact hrecords

end

/-- Settles O14: what closing keeps of the other departures carries each departure's own closing through the list. -/
theorem nightCloseClearsTheNight : Obligations.NightCloseClearsTheNight := by
  intro s u tag hu
  refine ⟨fun hclosed => ?refused, fun hopen => ?closed⟩
  case refused =>
    refine congrArg Host.Outcome.next (takeRequest_asRun_refused hu ?_)
    simp [answerNightClose, hclosed]
  case closed =>
    obtain ⟨result, hanswer⟩ := answerNightClose_open (r := u.toRun) hopen
    obtain ⟨doors, movers, lanes, hclear, hdoors, hmovers, hlanes⟩ := (u.toRun.yard.nightClosed u.toRun.env).clearNight_eq
    have hdeparture {d e} := Yard.nightClosed_departure u.toRun.yard u.toRun.env (d := d) (e := e)
    rw [hclear] at hanswer
    refine ⟨result, _, congrArg Host.Outcome.next (takeRequest_asRun hu hanswer), rfl, rfl, rfl, rfl, fun _ => rfl, rfl, rfl,
      fun m => ?mover, fun l => ?lane, fun c hc => Floor.mem_keptPallets hc, fun d hd => ?departure, fun n => ?door,
      fun d e he hst hdoor => ?given, fun hwf hready ref p hp => ?records⟩
    case mover => exact (congrArg Mover.state (hmovers m)).trans (Mover.sentOff_state _)
    case lane =>
      exact ⟨congrArg Lane.present (hlanes l), congrArg Lane.incoming (hlanes l), congrArg Lane.alert (hlanes l)⟩
    case departure =>
      obtain ⟨e, he⟩ := Option.isSome_iff_exists.mp hd
      obtain ⟨hstate, hout⟩ := hdeparture he
      refine ⟨hstate, fun hst => ?_⟩
      obtain ⟨-, hminute, hhold, hstalled, hdoor, hdeck⟩ := (hout hst).1
      exact ⟨hminute, hhold, hstalled, hdoor, hdeck⟩
    case door =>
      have hend := (Yard.nightClosed_door u.toRun.yard u.toRun.env n).closedNight
      rw [← hdoors n] at hend
      exact hend
    case given =>
      obtain ⟨till, htill⟩ := ((hdeparture he).2 hst).2 hdoor
      exact (congrArg Door.underlying ((hdoors e.door).trans (Door.endedQuietly_of_changeover htill)))
    case records =>
      have hkey {d} : d ∈ u.toRun.env.plan.departures.keys ↔ u.plan.active.departures.has d = true :=
        ⟨Tab.has_of_mem_keys, Tab.mem_keys_of_has⟩
      obtain ⟨hwf', hrecords⟩ := Yard.nightClosed_records u.toRun.yard u.toRun.env hwf fun d hd => hready d (hkey.mp hd)
      obtain ⟨hfreed, hkept⟩ := hrecords ref
      have hget := Floor.keptPallets_get hwf' ref
      refine ⟨fun ⟨d, hd, hcut, haboard⟩ => ?_, fun hnot => ?_⟩
      · rw [hfreed ⟨d, hkey.mpr hd, hcut, haboard⟩] at hget
        exact hget
      · rw [hkept fun d hd ⟨hcut, x, hx, hxref⟩ => hnot d (hkey.mp hd) hcut x hx hxref,
          show u.toRun.yard.pallets.get ref = some p from hp] at hget
        refine ⟨fun hfree => hget.trans ?_, fun h1 h2 h3 => hget.trans ?_⟩
        · simp [Pallet.freedAtClose_iff.mpr hfree]
        · have hno : p.freedAtClose = false := by
            rw [← Bool.not_eq_true, Pallet.freedAtClose_iff]
            rintro (h | h | ⟨h, hreason⟩)
            · exact h1 h
            · exact h2 h
            · exact hreason (h3 h)
          simp [hno, Pallet.carried, Loc.holdBay]

end Sys2Proof.Machine

namespace Sys2Proof.Machine

/-! ## The removal of an entry on top of its stack, R19 -/

/-- A map's only entry stands alone in its stack. -/
theorem placeSlots_singleton {x : Slot} : ∀ {places : List (List Entry)} {pos : Nat}, placeSlots pos places = [x] →
    pos ≤ x.pos ∧ x.tier = 1 ∧ places.getD (x.pos - pos) [] = [x.entry]
  | [] :: rest, pos, h => by
    obtain ⟨hpos, htier, hstack⟩ := placeSlots_singleton (places := rest) (pos := pos + 1) h
    refine ⟨by omega, htier, ?_⟩
    rw [show x.pos - pos = (x.pos - (pos + 1)) + 1 by omega]
    exact hstack
  | [e] :: rest, pos, h => by
    obtain ⟨rfl, -⟩ := List.cons_eq_cons.mp h
    exact ⟨le_rfl, rfl, by simp⟩
  | (e :: e' :: stk) :: rest, pos, h => by simp [placeSlots, tierSlots] at h

theorem Deck.slots_singleton {dk : Deck} {x : Slot} (h : dk.slots = [x]) : x.tier = 1 ∧ dk.stackAt x.pos = [x.entry] :=
  (placeSlots_singleton h).2

/-- The floor from whose departure `d` the entry of the pallet `p` has been removed, R19 steps 3 to 6. -/
def Yard.pulled (y : Yard) (d ref pos : Nat) (pr : Profile) (p : Pallet) : Yard :=
  { y with
    decks := y.decks.put d ((y.deck d).pull pr pos ref p.weight)
    pallets := y.pallets.put ref { p with dep := none, slot := none } }

theorem Env.profileOf_of_get {env : Env} {d : Nat} {e : DepartureEntry} {pr : Profile} (he : env.depEntry d = some e)
    (hpr : env.plan.profiles.get e.profile = some pr) : env.profileOf d = some pr := by
  simp [Env.profileOf, he, hpr]

theorem Yard.pullEntry_of_get {y : Yard} {env : Env} {d ref pos : Nat} {pr : Profile} {p : Pallet}
    (hp : y.pallets.get ref = some p) (hpr : env.profileOf d = some pr) :
    y.pullEntry env d ref pos = y.pulled d ref pos pr p := by
  rw [Yard.pullEntry_eq hpr, Floor.pallet_of_get hp, Tab.modify_of_get _ hp]
  rfl

/-- The removal of an entry with no other above and no task that carries its pallet, R19. -/
theorem Yard.removeEntry_top {y : Yard} {env : Env} {cause : NoteCause} {d ref pos tier : Nat} {pr : Profile} {p : Pallet}
    (hp : y.pallets.get ref = some p) (hdep : p.dep = some d) (hslot : p.slot = some (pos, tier))
    (hpr : env.profileOf d = some pr) (htop : ((y.deck d).stackAt pos).length ≤ tier) (hcarrier : y.carrier ref = none) :
    y.removeEntry env cause ref = (0, (y.pulled d ref pos pr p).evaluate env d) := by
  have habove : (((y.deck d).stackAt pos).drop tier).map (·.ref) = [] := by rw [List.drop_eq_nil_of_le htop]; rfl
  have hwithdraw : y.withdrawRelease (env.muting d) ref = y := by simp [Yard.withdrawRelease, hcarrier]
  unfold Yard.removeEntry
  rw [Floor.pallet_of_get hp, hdep, hslot]
  simp only [habove, List.foldl_nil, hwithdraw, Yard.pullEntry_of_get hp hpr, replaceAll, List.length_nil]

/-! ## Re-routing of a pallet that stands in a lane, R70, R71 -/

section

variable {y : Yard} {env : Env} {cause : NoteCause} {former ref l : Nat} {p : Pallet}
  (hp : y.pallets.get ref = some p) (hst : p.state = .inLane) (hloc : p.loc = some (.floor l)) (hl : 2 ≤ l)
  (hcarrier : y.carrier ref = none) (hbacklog : y.backlogOf ref = none)

section

include hcarrier hbacklog

/-- No move of the pallet is under way. -/
theorem Yard.takeOffTip_none : y.takeOffTip env ref = y := by simp [Yard.takeOffTip, hcarrier, hbacklog]

end

section

include hp hst hloc hl

theorem Floor.standOf_lane : y.standOf ref = .lane l := by
  simp [Floor.standOf, Floor.pallet_of_get hp, hst, hloc, Loc.stand, isLane, hl]

end

/-- Routing that no departure of the list takes, R65. -/
theorem Yard.routeOver_none {stand : Stand} {dest : Nat} (hdest : (y.pallet ref).dest = dest) : ∀ {ds : List Nat},
    (∀ d ∈ ds, y.candidate env stand d dest = none ∨ y.findPlace env d ref = none) →
      y.routeOver env stand ref ds = none
  | [], _ => rfl
  | d :: rest, h => by
    have hrest := Yard.routeOver_none hdest fun x hx => h x (List.mem_cons_of_mem d hx)
    unfold Yard.routeOver
    rw [hdest]
    rcases h d List.mem_cons_self with hc | hplace
    · rw [hc]
      exact hrest
    · simp only [Yard.tryPlace, hplace, Option.map_none, hrest]
      split <;> rfl

/-- Routing that the first departure of the list takes, R65. -/
theorem Yard.routeOver_first {stand : Stand} {d pos dest : Nat} {rest : List Nat} {lane : Option Nat}
    (hdest : (y.pallet ref).dest = dest) (hc : y.candidate env stand d dest = some lane)
    (hplace : y.findPlace env d ref = some pos) :
    y.routeOver env stand ref (d :: rest) = some { dep := d, lane := lane, yard := y.place env d ref pos } := by
  unfold Yard.routeOver
  rw [hdest, hc]
  simp [Yard.tryPlace, hplace]

/-- A departure that serves the destination is a candidate for a pallet that needs no lane, R65. -/
theorem Floor.candidate_noLane {f : Floor} {stand : Stand} {d dest : Nat} {e : DepartureEntry} (he : env.depEntry d = some e)
    (htakes : (f.departure d).state.takesIntake = true) (hdest : dest = e.drop1 ∨ e.drop2 = some dest)
    (hlane : laneNeeded (f.departure d).state stand = false) : f.candidate env stand d dest = some none := by
  have hserves : (dest == e.drop1 || e.drop2 == some dest) = true := by simpa using hdest
  simp [Floor.candidate, he, htakes, hserves, hlane]

include hp hst hloc hl hcarrier hbacklog

/-- No departure takes the pallet: it is HELD with a RELOCATE task, R71. -/
theorem Yard.reroute_held (hroom : y.poolFull = false)
    (hnone : ∀ d ∈ env.routeFor p (some former),
      y.candidate env (.lane l) d p.dest = none ∨ y.findPlace env d ref = none) :
    y.reroute env cause former ref =
      (none, ({ y with pallets := y.pallets.put ref { p with state := .held } }.addTask
        (newTask .relocate 1 (.floor l) .holdBay [ref] 1 none)).note env former (.pallet p.label (.held cause))) := by
  have hpallet := Floor.pallet_of_get hp
  have hroute : y.route env (.lane l) ref (some former) = none := by
    rw [Yard.route, hpallet]
    exact Yard.routeOver_none (congrArg Pallet.dest hpallet) hnone
  have hheld : y.modPallet ref (fun p => { p with state := .held }) =
      { y with pallets := y.pallets.put ref { p with state := .held } } := by
    rw [Yard.modPallet, Tab.modify_of_get _ hp]
  have hbind : (y.bindHold ref).2 = { y with pallets := y.pallets.put ref { p with state := .held } }.addTask
      (newTask .relocate 1 (.floor l) .holdBay [ref] 1 none) := by
    have hask : ({ y with pallets := y.pallets.put ref { p with state := .held } } : Yard).poolFull = false := hroom
    simp only [Yard.bindHold, Floor.standOf_lane hp hst hloc hl, hheld]
    simp [Yard.askTask, Yard.createTask, hask]
  have hlabel : ({ y with pallets := y.pallets.put ref { p with state := .held } }.addTask
      (newTask .relocate 1 (.floor l) .holdBay [ref] 1 none)).labelOf ref = p.label :=
    show _ = ({ p with state := .held } : Pallet).label from congrArg Pallet.label (Tab.at_put_same ..)
  simp only [Yard.reroute, Yard.takeOffTip_none hcarrier hbacklog, Floor.standOf_lane hp hst hloc hl, hroute, hbind, hlabel]

/-- The first departure of the list takes the pallet where it stands, R70. -/
theorem Yard.reroute_first {d pos : Nat} {rest : List Nat} {e : DepartureEntry} {pr : Profile}
    (hlist : env.routeFor p (some former) = d :: rest) (he : env.depEntry d = some e) (hpr : env.profileOf d = some pr)
    (htakes : (y.departure d).state.takesIntake = true) (hdest : p.dest = e.drop1 ∨ e.drop2 = some p.dest)
    (hplace : y.findPlace env d ref = some pos) :
    y.reroute env cause former ref =
      (some d, (y.place env d ref pos).note env d (.pallet p.label
        (.rerouted former pos (((y.deck d).stackAt pos).length + 1) cause))) := by
  have hpallet := Floor.pallet_of_get hp
  have hroute : y.route env (.lane l) ref (some former) = some { dep := d, lane := none, yard := y.place env d ref pos } := by
    rw [Yard.route, hpallet, hlist]
    exact Yard.routeOver_first (congrArg Pallet.dest hpallet) (Floor.candidate_noLane he htakes hdest rfl) hplace
  have hplaced : (y.place env d ref pos).pallet ref =
      { p with dep := some d, slot := some (pos, ((y.deck d).stackAt pos).length + 1) } := by
    rw [Yard.place_eq hpr, Tab.modify_of_get _ hp]
    exact Tab.at_put_same ..
  simp only [Yard.reroute, Yard.takeOffTip_none hcarrier hbacklog, Floor.standOf_lane hp hst hloc hl, hroute, Yard.giveMove,
    hplaced, Option.map_some, Option.getD_some]

end

/-! ## CUT NOW, R49 -/

/-- The cut-off of a departure with one entry, PLANNED, that no task carries, R47. -/
theorem Yard.cutOff_single {y : Yard} {env : Env} {d : Nat} {r : Departure} {x : Slot} {p : Pallet} {pr : Profile}
    {taken : Option Nat} {z : Yard} {q : Departure} {dk : Deck} (hr : y.departures.get d = some r) (hslots : (y.deck d).slots = [x])
    (hx : x.entry.status = .planned) (hp : y.pallets.get x.entry.ref = some p) (hdep : p.dep = some d)
    (hslot : p.slot = some (x.pos, x.tier)) (hpr : env.profileOf d = some pr) (hcarrier : y.carrier x.entry.ref = none)
    (htold : ((y.cutMarked d r).pulled d x.entry.ref x.pos pr p).rerouteTold (env.muting d) .cut d x.entry.ref =
      (taken, z)) (hq : z.departures.get d = some q) (hdeck : z.deck d = dk) :
    y.cutOff env d =
      ({ removed := 1, rerouted := if taken.isSome then 1 else 0 },
        (z.putDep d { q with removedAtCut := 1, state := .cut }).note env d (.departure (.cut 1) dk.w dk.k dk.b)) := by
  obtain ⟨htier, hstack⟩ := Deck.slots_singleton hslots
  have hrefs : (y.cutMarked d r).cutList d = [x.entry.ref] := by
    have hdeck : ((y.cutMarked d r).deck d).slots = [x] := hslots
    simp [Floor.cutList, hdeck, hx]
  have hremove : ((y.cutMarked d r).removeEntry (env.muting d) .cut x.entry.ref).2 =
      (y.cutMarked d r).pulled d x.entry.ref x.pos pr p := by
    have htop : (((y.cutMarked d r).deck d).stackAt x.pos).length ≤ x.tier := by
      rw [show ((y.cutMarked d r).deck d).stackAt x.pos = [x.entry] from hstack, htier]
      exact le_rfl
    rw [Yard.removeEntry_top (y := y.cutMarked d r) (env := env.muting d) hp hdep hslot hpr htop hcarrier]
    exact Yard.evaluate_of_mute (by simp [Env.muting])
  have hrecord := Yard.modDep_of_get (fun q => { q with removedAtCut := 1, state := .cut }) hq
  rw [Yard.cutOff_eq hr hrefs, ← Yard.depNote_eq (y := z.putDep d _) hdeck, ← hrecord]
  simp [hremove, rerouteAll, htold]

/-- The totals of an empty deck map. -/
theorem Deck.totalsBytes_blank (n : Nat) :
    le16 (Deck.blank n).w ++ le16 (Deck.blank n).k ++ le16 (Deck.blank n).b = List.replicate 6 0#8 := by
  simp [Deck.blank, Deck.k, Deck.b, kingpinLoad, bogieLoad, le16, byteOf, List.replicate]

/-- CUT NOW of a departure neither CUT nor CLOSED, R49. -/
theorem answerCutNow_cut {c : Byte} {env : Env} {y z : Yard} {e : DepartureEntry} {r : Departure} {count : CutCount}
    {dk : Deck} (h1 : 1 ≤ c.toNat) (h48 : c.toNat ≤ 48) (hopen : env.isOpen = true) (he : env.depEntry c.toNat = some e)
    (hr : y.departures.get c.toNat = some r) (hcut : r.state ≠ .cut) (hclosed : r.state ≠ .closed)
    (hoff : y.cutOff env c.toNat = (count, z)) (hlanes : z.lanes = y.lanes) (hdeck : z.deck c.toNat = dk) :
    answerCutNow [c] env y =
      .done (le8 count.removed ++ le8 count.rerouted ++ le8 (count.removed - count.rerouted) ++
        (le16 dk.w ++ le16 dk.k ++ le16 dk.b)) z := by
  refine (onDeparture_open h1 h48 hopen he).trans ?_
  rw [Floor.departure_of_get hr, DepState.cuttable_of hcut hclosed, if_neg (by simp)]
  simp only [hoff, Yard.watch_lanes hlanes, Floor.totalsBytes, hdeck]

/-- A departure that is not LOADED is not changed by taking a pallet, R18, R39. -/
theorem Yard.place_unloaded {y : Yard} {env : Env} {d ref pos : Nat} {pr : Profile} {p : Pallet} {r : Departure}
    (hpr : env.profileOf d = some pr) (hp : y.pallets.get ref = some p) (hr : y.departures.get d = some r)
    (hst : r.state ≠ .loaded) :
    y.place env d ref pos =
      { y with
        decks := y.decks.put d ((y.deck d).push pr pos { ref := ref, status := .planned } p.weight)
        pallets := y.pallets.put ref { p with dep := some d, slot := some (pos, ((y.deck d).stackAt pos).length + 1) }
        departures := y.departures.put d r } := by
  have hsame : ({ r with state := if r.state = .loaded then .loading else r.state } : Departure) = r := by
    rw [if_neg hst]
  rw [Yard.place_eq hpr, Floor.pallet_of_get hp, Tab.modify_of_get _ hp, Tab.modify_of_get _ hr, hsame]

/-- A departure that has taken the pallet and does not load is told nothing to do, R37. -/
theorem Yard.rerouteTold_taken {y z : Yard} {env : Env} {cause : NoteCause} {former ref d : Nat}
    (h : y.reroute env cause former ref = (some d, z)) (hst : (z.departure d).state = .planned) :
    y.rerouteTold env cause former ref = (some d, z) := by
  simp only [Yard.rerouteTold, h]
  rw [Yard.evaluate_of_state (by simp [hst]) (by simp [hst])]

theorem Yard.rerouteTold_none {y z : Yard} {env : Env} {cause : NoteCause} {former ref : Nat}
    (h : y.reroute env cause former ref = (none, z)) : y.rerouteTold env cause former ref = (none, z) := by
  simp only [Yard.rerouteTold, h]

/-- Settles O47. -/
theorem cutNowCutsADeparture : Obligations.CutNowCutsADeparture := by
  intro s u tag d e r n hu h1 h48 hopen hplan hr
  have he : u.toRun.env.depEntry d.toNat = some e := hplan
  have answer {count z dk} := answerCutNow_cut (y := u.toRun.yard) (env := u.toRun.env) (count := count) (z := z) (dk := dk)
    h1 h48 hopen he hr
  refine ⟨fun hst => ?refused, fun hcut hclosed hdeck => ?blank, fun x p l pr dk y cut hcut hclosed hslots hx hp hst hloc hl
    hdep hslot hcarrier hbacklog hroom hprofile hdk hcutR hy => ⟨fun d2 rest e2 pr2 pos tier hlist he2 hpr2 hst2 hdest hplace
      htier => ?taken, fun hnone => ?held⟩⟩
  case refused =>
    refine congrArg Host.Outcome.next (takeRequest_onDeparture_refused hu h1 h48 hopen hplan (if_pos ?_))
    rw [Floor.departure_of_get (by exact hr)]
    exact DepState.not_cuttable hst
  case blank =>
    have hanswer := answer hcut hclosed (Yard.cutOff_blank hr hdeck) rfl hdeck
    rw [Deck.totalsBytes_blank] at hanswer
    exact ⟨_, congrArg Host.Outcome.next (takeRequest_asYard hu hanswer), Yard.putDep_get .., fun k hk =>
      Yard.putDep_get_other _ _ hk, rfl, rfl⟩
  all_goals
    subst hy hdk hcutR
    have hprofile' : u.toRun.env.profileOf d.toNat = some pr := Env.profileOf_of_get he hprofile
    have cutOff {taken z q dk} := Yard.cutOff_single (y := u.toRun.yard) (env := u.toRun.env) (taken := taken) (z := z)
      (q := q) (dk := dk) hr hslots hx
      hp hdep hslot hprofile' hcarrier
    have hrecord := Tab.get_put_same u.floor.departures d.toNat
      { r with callMark := true, marginMark := true, cutMark := true, stalled := false }
    have hdeck := Tab.at_put_same (Deck.blank 0) u.floor.decks d.toNat
      ((u.floor.deck d.toNat).pull pr x.pos x.entry.ref p.weight)
    have hpallet : ((u.toRun.yard.cutMarked d.toNat r).pulled d.toNat x.entry.ref x.pos pr p).pallets.get x.entry.ref =
      some { p with dep := none, slot := none } := Tab.get_put_same ..
  case taken =>
    have hne : d2 ≠ d.toNat := by
      have hmem : d2 ∈ u.toRun.env.routeFor p (some d.toNat) := hlist ▸ List.mem_cons_self
      simpa using (List.mem_filter.mp hmem).2
    have hpr2' : u.toRun.env.profileOf d2 = some pr2 := Env.profileOf_of_get he2 hpr2
    have hget2 : u.floor.departures.get d2 = some (u.floor.departure d2) := Floor.get_departure (by simp [hst2])
    have hr2 : ((u.toRun.yard.cutMarked d.toNat r).pulled d.toNat x.entry.ref x.pos pr p).departures.get d2 =
      some (u.floor.departure d2) := (Tab.get_put_other _ _ hne).trans hget2
    have hdeck2 : ((u.toRun.yard.cutMarked d.toNat r).pulled d.toNat x.entry.ref x.pos pr p).deck d2 = u.floor.deck d2 :=
      Tab.at_put_other _ _ _ hne
    have hreroute := Yard.reroute_first (env := u.toRun.env.muting d.toNat) (cause := .cut) (former := d.toNat) hpallet hst hloc
      hl hcarrier hbacklog hlist he2 hpr2' (by rw [Floor.departure_of_get hr2, hst2]; rfl) hdest hplace
    rw [Yard.place_unloaded (env := u.toRun.env.muting d.toNat) hpr2' hpallet hr2 (by simp [hst2]), hdeck2, ← htier] at hreroute
    have htold := Yard.rerouteTold_taken hreroute ((congrArg Departure.state (Tab.at_put_same ..)).trans hst2)
    have hdeckd dk2 := (Tab.at_put_other _ _ dk2 hne.symm).trans hdeck
    have hrecordd r2 := (Tab.get_put_other _ r2 hne.symm).trans hrecord
    have hanswer := answer hcut hclosed (cutOff htold (hrecordd _) (hdeckd _)) rfl (hdeckd _)
    refine ⟨_, congrArg Host.Outcome.next (takeRequest_asYard hu hanswer), Tab.get_put_same .., fun k hk => ?_, hdeckd _,
      Tab.at_put_same .., fun k hk hk2 => (Tab.at_put_other _ _ _ hk2).trans (Tab.at_put_other _ _ _ hk), Tab.get_put_same ..,
      fun k hk => (Tab.get_put_other _ _ hk).trans (Tab.get_put_other _ _ hk), rfl, rfl⟩
    by_cases hk2 : k = d2
    · subst hk2
      exact (Tab.get_put_other _ _ hk).trans ((Tab.get_put_same ..).trans hget2.symm)
    · exact (Tab.get_put_other _ _ hk).trans ((Tab.get_put_other _ _ hk2).trans (Tab.get_put_other _ _ hk))
  case held =>
    have hreroute := Yard.reroute_held (env := u.toRun.env.muting d.toNat) (cause := .cut) (former := d.toNat) hpallet hst hloc
      hl hcarrier hbacklog (by exact decide_eq_false (Nat.not_le.mpr hroom)) hnone
    have hanswer := answer hcut hclosed (cutOff (Yard.rerouteTold_none hreroute) hrecord hdeck) rfl hdeck
    exact ⟨_, congrArg Host.Outcome.next (takeRequest_asYard hu hanswer), Tab.get_put_same .., fun k hk =>
      (Tab.get_put_other _ _ hk).trans (Tab.get_put_other _ _ hk), hdeck, fun k hk => Tab.at_put_other _ _ _ hk,
      Tab.get_put_same .., fun k hk => (Tab.get_put_other _ _ hk).trans (Tab.get_put_other _ _ hk), rfl, rfl⟩

end Sys2Proof.Machine

namespace Sys2Proof.Machine

/-! ## Tables: one key written or erased -/

theorem cellErase_eq_filter {α : Type} (k : Nat) : ∀ cells : List (Nat × α), cellErase cells k = cells.filter (·.1 ≠ k)
  | [] => rfl
  | (j, u) :: rest => by by_cases h : j = k <;> simp [cellErase, h, cellErase_eq_filter k rest]

theorem Tab.mem_erase {α : Type} {t : Tab α} {k : Nat} {c : Nat × α} : c ∈ (t.erase k).cells ↔ c ∈ t.cells ∧ c.1 ≠ k := by
  show c ∈ cellErase t.cells k ↔ _
  rw [cellErase_eq_filter, List.mem_filter, decide_eq_true_iff]

theorem cellErase_put {α : Type} (k : Nat) (v : α) : ∀ cells : List (Nat × α),
    cellErase (cellPut cells k v) k = cellErase cells k
  | [] => by simp [cellPut, cellErase]
  | (j, u) :: rest => by
    by_cases h1 : k < j
    · simp [cellPut, cellErase, h1]
    · by_cases h2 : j = k
      · simp [cellPut, cellErase, h2]
      · simp [cellPut, cellErase, h1, h2, cellErase_put k v rest]

/-- What is written under a key goes with the key. -/
@[simp] theorem Tab.erase_put {α : Type} (t : Tab α) (k : Nat) (v : α) : (t.put k v).erase k = t.erase k :=
  congrArg Tab.mk (cellErase_put k v t.cells)

theorem Tab.mem_of_get {α : Type} {t : Tab α} {k : Nat} {v : α} (h : t.get k = some v) : (k, v) ∈ t.cells := by
  have key : ∀ cells : List (Nat × α), cellGet cells k = some v → (k, v) ∈ cells := by
    intro cells
    induction cells with
    | nil => nofun
    | cons c rest ih =>
      obtain ⟨j, u⟩ := c
      intro hget
      by_cases hj : j = k
      · rw [cellGet, if_pos hj] at hget
        rw [Option.some.inj hget, hj]
        exact List.mem_cons_self
      · rw [cellGet, if_neg hj] at hget
        exact List.mem_cons_of_mem _ (ih hget)
  exact key t.cells h

/-- Where a key is listed, the table without it is smaller. -/
theorem Tab.size_erase_lt {α : Type} {t : Tab α} {k : Nat} {v : α} (h : t.get k = some v) : (t.erase k).size < t.size := by
  show (cellErase t.cells k).length < t.cells.length
  rw [cellErase_eq_filter]
  exact List.length_filter_lt_length_iff_exists.mpr ⟨_, Tab.mem_of_get h, by simp⟩

/-! ## TASK FAIL: the body and the end of the issue, R106 -/

theorem taskFail_fields {id : Nat} (m c : Byte) (hid : id ≤ 65535) :
    (le16 id ++ [m, c]).length = 4 ∧ u16 (le16 id ++ [m, c]) 0 = id ∧ u8 (le16 id ++ [m, c]) 2 = m.toNat ∧
      u8 (le16 id ++ [m, c]) 3 = c.toNat := ⟨rfl, u16_le16_append hid _, rfl, rfl⟩

/-- TASK FAIL of the mover that holds the task, R106 case (a). -/
theorem answerTaskFail_current {id : Nat} {m c : Byte} {env : Env} {y : Yard} {t : Task} {reason : FailReason}
    {refs : List Nat} {z : Yard} (hid : id ≤ 65535) (h1 : 1 ≤ m.toNat) (h24 : m.toNat ≤ 24) (hopen : env.isOpen = true)
    (ht : y.tasks.get id = some t) (hmover : t.mover = some m.toNat) (hreason : FailReason.ofCode c.toNat = some reason)
    (hfail : (y.endIssue env id t false).failTask env id t reason = (refs, z))
    (hwatch : z.watch env y.toFloor = z) :
    answerTaskFail (le16 id ++ [m, c]) env y =
      .done (le16 id ++ z.becameBytes id ++ (refs.map y.labelOf).flatMap le32) z := by
  obtain ⟨hlen, hfid, hfm, hfc⟩ := taskFail_fields m c hid
  unfold answerTaskFail
  simp only [hfc, hreason, Option.isSome_some]
  refine (onReport_current hlen hfid hfm h1 h24 hopen ht hmover).trans ?_
  simp only [Option.getD_some, hfail, hwatch]

theorem answerTaskFail_range {id : Nat} {m c : Byte} {env : Env} {y : Yard} (hid : id ≤ 65535)
    (hreason : FailReason.ofCode c.toNat = none) : answerTaskFail (le16 id ++ [m, c]) env y = .refused .range := by
  obtain ⟨-, -, -, hfc⟩ := taskFail_fields m c hid
  simp [answerTaskFail, onReport, hfc, hreason, length_le16]

/-- The record of a task whose issue has ended in case (a): a load task is ISSUED no more, R106. -/
def Task.issueOver (t : Task) : Task := { t with mover := if t.loads then none else t.mover }

/-- The floor on which mover `m` has given up its task `id`, before departure control is told, R106. -/
def Yard.issueOver (y : Yard) (id m : Nat) (t : Task) : Yard :=
  { y with
    movers := y.movers.set Mover.reset m { state := .idle, last := some id }
    tasks := y.tasks.put id t.issueOver }

section

variable {y : Yard} {env : Env} {id m : Nat} {t : Task} (ht : y.tasks.get id = some t) (hmover : t.mover = some m)

include ht hmover

theorem Yard.endIssue_eq : y.endIssue env id t false = (y.issueOver id m t).toldEnded env t := by
  have hfree : y.freeMover id .idle = y.setMover m { state := .idle, last := some id } := by
    simp [Yard.freeMover, ht, hmover]
  rw [Yard.endIssue, if_neg (by simp), hfree, Yard.modTask, Tab.modify_of_get _ (by exact ht)]
  rfl

/-- Departure control has nothing to judge for a task that is no load task, R45. -/
theorem Yard.endIssue_other (hloads : t.loads = false) : y.endIssue env id t false = y.issueOver id m t := by
  rw [Yard.endIssue_eq ht hmover, Yard.toldEnded, hloads]

/-- Nor for a departure that is not STOPPING. -/
theorem Yard.endIssue_load {d : Nat} (hloads : t.loads = true) (hdep : t.dep = some d)
    (hst : (y.departure d).state ≠ .stopping) : y.endIssue env id t false = y.issueOver id m t := by
  rw [Yard.endIssue_eq ht hmover, Yard.toldEnded, hloads, hdep]
  exact Yard.stopTest_of_state hst

/-- The floor on which STOPPING departure `d` has been judged STOPPED, with its note, R45. -/
theorem Yard.endIssue_stops {d : Nat} {r : Departure} (hloads : t.loads = true) (hdep : t.dep = some d)
    (hr : y.departures.get d = some r) (hst : r.state = .stopping) (hlast : (y.issueOver id m t).issuedLoads d = 0) :
    y.endIssue env id t false =
      ((y.putDep d { r with state := .stopped }).depNote env d .stopped).issueOver id m t := by
  have hstate : ((y.issueOver id m t).departure d).state = .stopping :=
    (congrArg Departure.state (Floor.departure_of_get (by exact hr))).trans hst
  have hmod : (y.issueOver id m t).modDep d (fun r => { r with state := .stopped }) =
      (y.issueOver id m t).putDep d { r with state := .stopped } := Yard.modDep_of_get _ hr
  rw [Yard.endIssue_eq ht hmover, Yard.toldEnded, hloads, hdep]
  exact (Yard.stopTest_of_last hstate hlast).trans (congrArg (Yard.depNote · env d .stopped) hmod)

end

theorem Task.issueOver_other {t : Task} (h : t.loads = false) : t.issueOver = t := by
  rw [Task.issueOver, h]
  rfl

/-! ## The task leaves the pool -/

/-- A task leaves pool, queue and issue order with an empty backlog and no departure stalled, R93. -/
theorem Yard.leavePool_of_get {y : Yard} {env : Env} {id : Nat} {t : Task} (ht : y.tasks.get id = some t)
    (hbacklog : y.backlog = []) (hstalled : y.stalledDeps = []) :
    y.leavePool env id =
      { y with
        tasks := y.tasks.erase id
        issued := y.issued.filter (· ≠ id)
        queues := y.queues.set [] t.level ((y.queue t.level).filter (· ≠ id)) } := by
  have hout : y.takeTaskOut id = { y with
        tasks := y.tasks.erase id
        issued := y.issued.filter (· ≠ id)
        queues := y.queues.set [] t.level ((y.queue t.level).filter (· ≠ id)) } := by
    unfold Yard.takeTaskOut
    rw [ht]
    rfl
  rw [Yard.leavePool_quiet (by simp [Tab.has, ht]) hbacklog (by rw [hout]; exact hstalled), hout]

/-- The end of the issue and then of the task itself, R106, R107. -/
theorem Yard.leavePool_issueOver {y : Yard} {env : Env} {id m : Nat} {t : Task} (hbacklog : y.backlog = [])
    (hstalled : y.stalledDeps = []) : (y.issueOver id m t).leavePool env id = y.ended id t.level m := by
  rw [Yard.leavePool_of_get (y := y.issueOver id m t) (t := t.issueOver) (Tab.get_put_same ..) hbacklog hstalled]
  simp only [Yard.issueOver, Tab.erase_put]
  rfl

/-- No other task carries the pallet. -/
theorem Floor.carrier_erase {f g : Floor} {id ref : Nat} (hg : g.tasks = f.tasks.erase id)
    (h : ∀ c ∈ f.tasks.cells, ref ∈ c.2.unmoved → c.1 = id) : g.carrier ref = none := by
  rw [Floor.carrier, List.find?_eq_none, hg]
  intro c hc
  obtain ⟨hmem, hne⟩ := Tab.mem_erase.mp hc
  simpa using fun href => hne (h c hmem href)

theorem Floor.backlogOf_empty {f : Floor} {ref : Nat} (h : f.backlog = []) : f.backlogOf ref = none := by
  simp [Floor.backlogOf, h]

theorem Yard.dropBacklog_empty {y : Yard} {ref : Nat} (h : y.backlog = []) : y.dropBacklog ref = y := by
  rw [Yard.dropBacklog, h, List.filter_nil, ← h]

theorem Floor.becameBytes_gone {f : Floor} {id : Nat} (h : f.tasks.get id = none) : f.becameBytes id = [0#8, 0#8] := by
  rw [Floor.becameBytes, h]
  rfl

end Sys2Proof.Machine

namespace Sys2Proof.Machine

/-! ## Pallets that go MISSING, R107 -/

section

variable {y : Yard} {env : Env} {id ref d n l pos tier : Nat} {t : Task} {p : Pallet} {pr : Profile}

theorem Yard.takeOffTip_idle (hcarrier : y.carrier ref = none) (hbacklog : y.backlog = []) : y.takeOffTip env ref = y :=
  Yard.takeOffTip_none hcarrier (Floor.backlogOf_empty hbacklog)

theorem Yard.takeOffRelocate_idle (hcarrier : y.carrier ref = none) (hbacklog : y.backlog = []) :
    y.takeOffRelocate env ref = y := by
  rw [Yard.takeOffRelocate, hcarrier]
  exact Yard.dropBacklog_empty hbacklog

/-- A pallet becomes MISSING, with its note, R73. -/
theorem Yard.goMissing_of_get {cause : NoteCause} {former : Nat} (hp : y.pallets.get ref = some p) :
    y.goMissing env cause former ref =
      { y with pallets := y.pallets.put ref { p with state := .missing, loc := none, dep := none, reason := none } }.note env
        former (.pallet p.label (.missing cause)) := by
  rw [Yard.goMissing, Yard.modPallet, Tab.modify_of_get _ hp, Floor.labelOf, Floor.pallet_of_get hp]

/-- A pallet with no move under way, R107; `z` is the floor after its entry's removal. -/
theorem Yard.notFoundPallet_idle {z : Yard} (hkind : t.kind ≠ .tip) (hremove : (y.removeEntry env .replacement ref).2 = z)
    (hcarrier : z.carrier ref = none) (hbacklog : z.backlog = []) :
    y.notFoundPallet env t ref =
      (z.leaveLoc (z.pallet ref).loc ref).goMissing env .notFound (((y.pallet ref).dep).getD 0) ref := by
  simp only [Yard.notFoundPallet, hremove, Yard.takeOffTip_idle hcarrier hbacklog, Yard.takeOffRelocate_idle hcarrier hbacklog,
    if_neg hkind]

variable (hp : y.pallets.get ref = some p) (hkind : t.kind ≠ .tip) (hcarrier : y.carrier ref = none)
  (hbacklog : y.backlog = [])

include hp hkind hcarrier hbacklog

/-- A pallet without departure at a door goes MISSING, R107. -/
theorem Yard.notFoundPallet_door (hdep : p.dep = none) (hloc : p.loc = some (.door n)) :
    y.notFoundPallet env t ref =
      { y with pallets := y.pallets.put ref { p with state := .missing, loc := none, reason := none } }.note env 0
        (.pallet p.label (.missing .notFound)) := by
  have hpallet := Floor.pallet_of_get hp
  have hremove := congrArg Prod.snd (Yard.removeEntry_absent (env := env) (cause := .replacement) ((congrArg Pallet.dep
    hpallet).trans hdep))
  rw [Yard.notFoundPallet_idle hkind hremove hcarrier hbacklog, hpallet, hloc, hdep]
  exact Yard.goMissing_of_get hp

/-- A pallet in a lane, on top of its stack on a departure that neither loads nor stops, goes MISSING, R107. -/
theorem Yard.notFoundPallet_lane (hdep : p.dep = some d) (hslot : p.slot = some (pos, tier))
    (hpr : env.profileOf d = some pr) (htop : ((y.deck d).stackAt pos).length = tier) (hloc : p.loc = some (.floor l))
    (hl : 2 ≤ l) (hloading : (y.departure d).state ≠ .loading) (hstopping : (y.departure d).state ≠ .stopping) :
    y.notFoundPallet env t ref =
      { y with
        decks := y.decks.put d ((y.deck d).pull pr pos ref p.weight)
        lanes := y.lanes.set Lane.reset l { y.lane l with present := (y.lane l).present.filter (· ≠ ref) }
        pallets := y.pallets.put ref
          { p with state := .missing, loc := none, dep := none, slot := none, reason := none } }.note env d
        (.pallet p.label (.missing .notFound)) := by
  have hremove := congrArg Prod.snd ((Yard.removeEntry_top (cause := .replacement) hp hdep hslot hpr htop.le hcarrier).trans
    (congrArg (Prod.mk 0) (Yard.evaluate_of_state (y := y.pulled d ref pos pr p) hloading hstopping)))
  have hpulled : (y.pulled d ref pos pr p).pallets.get ref = some { p with dep := none, slot := none } := Tab.get_put_same ..
  have hleave : (y.pulled d ref pos pr p).leaveLoc (some (.floor l)) ref = (y.pulled d ref pos pr p).laneLeave l ref := by
    simp [Yard.leaveLoc, isLane, hl]
  rw [Yard.notFoundPallet_idle hkind hremove hcarrier hbacklog, Floor.pallet_of_get hp, Floor.pallet_of_get hpulled, hloc, hdep]
  refine (congrArg (Yard.goMissing · env .notFound d ref) hleave).trans ?_
  rw [Yard.goMissing_of_get (y := (y.pulled d ref pos pr p).laneLeave l ref) hpulled]
  simp only [Yard.laneLeave, Yard.setLane, Yard.pulled, Tab.put_put]
  rfl

end

/-- NOT FOUND of a task with one pallet still to move, R107. -/
theorem Yard.failTask_notFound {y v z : Yard} {env : Env} {id ref : Nat} {t : Task} (hnext : t.unmoved = [ref])
    (hleave : y.leavePool env id = v) (hpallet : v.notFoundPallet env t ref = z) :
    y.failTask env id t .notFound = ([ref], z) := by
  simp [Yard.failTask, Yard.failNotFound, hnext, hleave, hpallet]

/-! ## Canonical tables: one cell for each key -/

theorem lt_of_mem_risesAbove {α : Type} {b : Nat} {c : Nat × α} : ∀ {cells : List (Nat × α)}, risesAbove b cells →
    c ∈ cells → b < c.1
  | (j, u) :: rest, ⟨hj, hrest⟩, hc => by
    rcases List.mem_cons.mp hc with rfl | hc
    · exact hj
    · exact hj.trans (lt_of_mem_risesAbove hrest hc)

theorem Tab.get_of_mem {α : Type} {t : Tab α} (hwf : t.wf = true) {c : Nat × α} (hc : c ∈ t.cells) :
    t.get c.1 = some c.2 := by
  have key : ∀ cells : List (Nat × α), cellsRise cells = true → c ∈ cells → cellGet cells c.1 = some c.2 := by
    intro cells
    induction cells with
    | nil => nofun
    | cons x rest ih =>
      obtain ⟨j, u⟩ := x
      intro hrise hmem
      rw [cellsRise_cons] at hrise
      rcases List.mem_cons.mp hmem with rfl | hmem
      · simp [cellGet]
      · have hlt : j < c.1 := lt_of_mem_risesAbove hrise hmem
        rw [cellGet, if_neg (by omega)]
        exact ih (cellsRise_of_above hrise) hmem
  exact key t.cells hwf hc

theorem Tab.mem_put {α : Type} {t : Tab α} {k : Nat} {v : α} (hwf : t.wf = true) {c : Nat × α} (hc : c ∈ (t.put k v).cells) :
    c = (k, v) ∨ c ∈ t.cells ∧ c.1 ≠ k := by
  have hget := Tab.get_of_mem (Tab.wf_put t k v hwf) hc
  by_cases hk : c.1 = k
  · rw [hk, Tab.get_put_same] at hget
    exact .inl (Prod.ext hk (Option.some.inj hget).symm)
  · rw [Tab.get_put_other _ _ hk] at hget
    exact .inr ⟨Tab.mem_of_get hget, hk⟩

/-- A write under a listed key adds no cell. -/
theorem Tab.size_put {α : Type} {t : Tab α} {k : Nat} {v w : α} (hwf : t.wf = true) (hget : t.get k = some w) :
    (t.put k v).size = t.size := by
  have key : ∀ cells : List (Nat × α), cellsRise cells = true → cellGet cells k = some w →
      (cellPut cells k v).length = cells.length := by
    intro cells
    induction cells with
    | nil => nofun
    | cons x rest ih =>
      obtain ⟨j, u⟩ := x
      intro hrise h
      rw [cellsRise_cons] at hrise
      by_cases hjk : j = k
      · simp [cellPut, hjk]
      · rw [cellGet, if_neg hjk] at h
        have hlt : ¬k < j := fun hlt => by rw [cellGet_of_above hlt.le hrise] at h; cases h
        simp [cellPut, hjk, hlt, ih (cellsRise_of_above hrise) h]
  exact key t.cells hwf hget

/-- The next id depends on the ids in use alone, R93. -/
theorem allocFrom_congr {s t : Tab Task} (h : ∀ k, s.has k = t.has k) : ∀ fuel id, allocFrom s fuel id = allocFrom t fuel id
  | 0, _ => rfl
  | fuel + 1, id => by simp only [allocFrom, h, allocFrom_congr h fuel]

theorem Floor.allocId_put {f g : Floor} {id : Nat} {t t' : Task} (hwf : f.tasks.wf = true) (ht : f.tasks.get id = some t)
    (hg : g.tasks = f.tasks.put id t') (hnext : g.nextId = f.nextId) : g.allocId = f.allocId := by
  have hhas : ∀ k, g.tasks.has k = f.tasks.has k := fun k => by
    rw [hg, Tab.has, Tab.has]
    by_cases hk : k = id
    · subst hk
      rw [Tab.get_put_same, ht]
      rfl
    · rw [Tab.get_put_other _ _ hk]
  have hsize : g.tasks.size = f.tasks.size := by rw [hg, Tab.size_put hwf ht]
  rw [Floor.allocId, Floor.allocId, hsize, hnext, allocFrom_congr hhas]

/-! ## Pallets that are damaged, R109 -/

/-- A task that has lost the only pallet still to move has none. -/
theorem Task.without_unmoved {t : Task} {ref : Nat} (h : t.unmoved = [ref]) : (t.without ref).unmoved = [] := by
  have hlen : t.done ≤ t.pallets.length := by
    have hpos : t.unmoved.length = 1 := by rw [h]; rfl
    rw [Task.unmoved, List.length_drop] at hpos
    omega
  have hrest : t.unmoved.filter (· ≠ ref) = [] := by simp [h]
  rw [Task.unmoved, Task.without]
  simp only [hrest, List.append_nil]
  exact List.drop_eq_nil_of_le (by rw [List.length_take]; omega)

/-- The floor on which the pallet `p` of a TIP move from door `n` to lane `l` has been found damaged: it has left departure
`d`, its place in the lane is given up, R109 steps 1 to 4. -/
def Yard.damaged (y : Yard) (d ref pos l n : Nat) (pr : Profile) (p : Pallet) : Yard :=
  { y with
    decks := y.decks.put d ((y.deck d).pull pr pos ref p.weight)
    lanes := y.lanes.set Lane.reset l { y.lane l with incoming := (y.lane l).incoming - 1 }
    pallets := y.pallets.put ref
      { p with state := .exception, reason := some .damaged, loc := some (.door n), dep := none, slot := none } }

/-- The floor on which mover `m`'s issue of task `id` is over and the task has lost the pallet `ref`. -/
def Yard.taskLoses (y : Yard) (id m : Nat) (t : Task) (ref : Nat) : Yard :=
  { y with
    movers := y.movers.set Mover.reset m { state := .idle, last := some id }
    tasks := y.tasks.put id (t.without ref) }

/-- A task created under the id `nid`, R93. -/
theorem Yard.addTask_of_alloc {y : Yard} {t : Task} {nid : Nat} (h : y.allocId = nid) :
    y.addTask t =
      { y with
        tasks := y.tasks.put nid t
        nextId := idAfter nid
        queues := y.queues.set [] t.level (y.queue t.level ++ [nid]) } := by
  subst h
  rfl

section

variable {y : Yard} {env : Env} {id ref d n l pos tier : Nat} {t : Task} {p : Pallet} {pr : Profile}

/-- The damaged pallet of a TIP task, on top of its stack on a departure that neither loads nor stops, R109 steps 1 to 5. -/
theorem Yard.damagedPallet_tip (hp : y.pallets.get ref = some p) (hkind : t.kind = .tip) (hsrc : t.src = .door n)
    (hdst : t.dst = .floor l) (hl : 2 ≤ l) (hcarrier : y.carrier ref = none) (hdep : p.dep = some d)
    (hslot : p.slot = some (pos, tier)) (hpr : env.profileOf d = some pr) (htop : ((y.deck d).stackAt pos).length = tier)
    (hloading : (y.departure d).state ≠ .loading) (hstopping : (y.departure d).state ≠ .stopping)
    (hroom : y.poolFull = false) :
    y.damagedPallet env t ref =
      ((y.damaged d ref pos l n pr p).addTask
        (newTask .relocate 0 (.door n) .exceptionBay [ref] 1 none)).note env d (.pallet p.label (.exception .damaged)) := by
  have hremove := congrArg Prod.snd ((Yard.removeEntry_top (cause := .replacement) hp hdep hslot hpr htop.le hcarrier).trans
    (congrArg (Prod.mk 0) (Yard.evaluate_of_state (y := y.pulled d ref pos pr p) hloading hstopping)))
  have hunexpect : (y.pulled d ref pos pr p).unexpectAt (.floor l) = (y.pulled d ref pos pr p).laneUnexpect l := by
    rw [Yard.unexpectAt, Loc.lane?_floor hl]
  have hpulled : ((y.pulled d ref pos pr p).laneUnexpect l).pallets.get ref = some { p with dep := none, slot := none } :=
    Tab.get_put_same ..
  have hmod : ((y.pulled d ref pos pr p).laneUnexpect l).modPallet ref
      (fun p => { p with state := .exception, reason := some .damaged, loc := some (.door n) }) =
      y.damaged d ref pos l n pr p := by
    rw [Yard.modPallet, Tab.modify_of_get _ hpulled]
    simp only [Yard.laneUnexpect, Yard.setLane, Yard.pulled, Tab.put_put]
    rfl
  have hask {w : Yard} (hw : w.poolFull = false) : (w.askTask .relocate 0 (.door n) .exceptionBay ref).2 =
      w.addTask (newTask .relocate 0 (.door n) .exceptionBay [ref] 1 none) := by
    simp [Yard.askTask, Yard.createTask, hw]
  simp only [Yard.damagedPallet, hremove, if_pos hkind, hdst, hsrc, hunexpect, hmod, Floor.pallet_of_get hp, hdep,
    Option.getD_some]
  rw [hask (by exact hroom), Floor.labelOf]
  refine congrArg (fun label => Yard.note _ env d (.pallet label (.exception .damaged))) ?_
  exact show _ = ({ p with
      state := .exception, reason := some .damaged, loc := some (.door n), dep := none, slot := none } : Pallet).label from
    congrArg Pallet.label (Tab.at_put_same ..)

/-- A task that has been issued and has no pallet left to move leaves the pool, R109. -/
theorem Yard.settleDamaged_ends (ht : y.tasks.get id = some t) (hlast : t.lastMover.isSome = true) (hnone : t.unmoved = []) :
    y.settleDamaged env id = y.leavePool env id := by
  obtain ⟨last, hlast⟩ := Option.isSome_iff_exists.mp hlast
  simp [Yard.settleDamaged, ht, hlast, hnone]

end

/-- DAMAGED of a task with one pallet still to move, R109. -/
theorem Yard.failTask_damaged {y w v z : Yard} {env : Env} {id ref : Nat} {t : Task} (hnext : t.unmoved = [ref])
    (hleft : y.modTask id (fun t => t.without ref) = w) (hpallet : w.damagedPallet env t ref = v)
    (hsettle : v.settleDamaged env id = z) : y.failTask env id t .damaged = ([ref], z) := by
  simp [Yard.failTask, Yard.failDamaged, hnext, hleft, hpallet, hsettle]

/-- No other task carries the pallet that a task has lost. -/
theorem Yard.carrier_taskLoses {y : Yard} {id m ref : Nat} {t : Task} (hwf : y.tasks.wf = true) (hnext : t.unmoved = [ref])
    (h : ∀ c ∈ y.tasks.cells, ref ∈ c.2.unmoved → c.1 = id) : (y.taskLoses id m t ref).carrier ref = none := by
  rw [Floor.carrier, List.find?_eq_none]
  intro c hc
  rcases Tab.mem_put hwf hc with rfl | ⟨hmem, hcid⟩
  · simp [Task.without_unmoved hnext]
  · simpa using fun href => hcid (h c hmem href)

/-- The level queues once task `nid` has joined level `a` and task `id` has then left level `b`. -/
theorem queue_joined_left (q : Tab (List Nat)) {a b id nid : Nat} (hne : nid ≠ id) {q₁ : Tab (List Nat)}
    (hq₁ : q₁ = q.set [] a (q.at [] a ++ [nid])) (k : Nat) :
    Tab.at [] (q₁.set [] b ((q₁.at [] b).filter (· ≠ id))) k =
      (if k = b then (q.at [] k).filter (· ≠ id) else q.at [] k) ++ (if k = a then [nid] else []) := by
  have hjoin (k) : q₁.at [] k = q.at [] k ++ (if k = a then [nid] else []) := by
    rw [hq₁]
    by_cases hk : k = a
    · simp [hk]
    · simp [Tab.at_set_other, hk]
  by_cases hk : k = b
  · subst hk
    have hkeep : (if k = a then [nid] else []).filter (· ≠ id) = if k = a then [nid] else [] := by
      split <;> simp [hne]
    rw [Tab.at_set_same, hjoin, List.filter_append, hkeep, if_pos rfl]
  · rw [Tab.at_set_other _ _ _ hk, hjoin, if_neg hk]

/-- A lane that gives up an expected place does not fill, R81. -/
theorem Lane.occupancy_unexpect_le (r : Lane) : { r with incoming := r.incoming - 1 }.occupancy ≤ r.occupancy := by
  simp only [Lane.occupancy]
  omega

/-- Writing a departure that does not load makes none stalled, R36. -/
theorem Yard.stalledDeps_putDep {y : Yard} {d : Nat} {r q : Departure} (hr : y.departures.get d = some r)
    (hq : q.state ≠ .loading) (h : y.stalledDeps = []) : (y.putDep d q).stalledDeps = [] :=
  Floor.stalledDeps_modify (f := y.toFloor) (u := fun _ => q) (Tab.modify_of_get (fun _ => q) hr).symm (fun _ => hq) h

/-- With no other load task of the departure ISSUED, none is once this one's issue is over, R45. -/
theorem Yard.issuedLoads_issueOver {y : Yard} {id m d : Nat} {t : Task} (hwf : y.tasks.wf = true) (hloads : t.loads = true)
    (hissued : ∀ c ∈ y.tasks.cells, c.2.loads = true → c.2.dep = some d → c.2.isIssued = true → c.1 = id) :
    (y.issueOver id m t).issuedLoads d = 0 := by
  rw [Floor.issuedLoads, List.length_eq_zero_iff, List.filter_eq_nil_iff]
  intro t' ht'
  obtain ⟨c, hc, rfl⟩ := List.mem_map.mp ht'
  rcases Tab.mem_put hwf hc with rfl | ⟨hmem, hne⟩
  · simp [Task.issueOver, Task.isIssued, hloads]
  · intro hall
    simp only [Bool.and_eq_true, beq_iff_eq] at hall
    exact hne (hissued c hmem hall.1.1 hall.1.2 hall.2)

/-- Settles O42: each reason acts on the floor that the end of the issue has left. -/
theorem failedTasksEnd : Obligations.FailedTasksEnd := by
  intro s u tag m reason id t hid hu h1 h24 hopen ht hmover hbacklog hstalled
  have answer {rs refs z} := answerTaskFail_current (y := u.toRun.yard) (env := u.toRun.env) (c := reason) (reason := rs)
    (refs := refs) (z := z) hid h1 h24 hopen ht hmover
  have other hloads := Yard.endIssue_other (env := u.toRun.env) (y := u.toRun.yard) ht hmover hloads
  refine ⟨fun hreason => ?range, fun n ref p hreason hkind hsrc hnext hp hdep hloc hcarried => ?notFound, fun hreason hkind
    hnone => ?posted, fun n l ref p d e r pr pos tier nid hreason hkind hsrc hdst hl hnext hlast hp hdep hslot he hpr hr hst
    htop hlow hwf hroom hcarried hnid hfree => ?damaged, fun l ref p d e r pr pos tier hreason hkind hdepT hnext hp hdep
    hslot hloc hl he hpr hr hst htop hlow hwf hissued hcarried => ?stopping⟩
  case range =>
    have hcode : FailReason.ofCode reason.toNat = none := by
      unfold FailReason.ofCode
      split
      · omega
      · omega
      · omega
      · rfl
    exact congrArg Host.Outcome.next (takeRequest_asYard_refused hu (answerTaskFail_range hid hcode))
  case notFound =>
    subst hreason
    have hloads : t.loads = false := Task.not_loads_iff.mpr (by simp [hkind])
    have hfail := Yard.failTask_notFound hnext
      (Yard.leavePool_issueOver (y := u.toRun.yard) (env := u.toRun.env) (m := m.toNat) hbacklog hstalled)
      (Yard.notFoundPallet_door (y := u.toRun.yard.ended id t.level m.toNat) (env := u.toRun.env) hp (by simp [hkind])
        (Floor.carrier_erase rfl hcarried) hbacklog hdep hloc)
    rw [← other hloads] at hfail
    have hanswer := answer rfl hfail (Yard.watch_lanes rfl)
    rw [Floor.becameBytes_gone (Tab.get_erase_same ..), List.map_singleton, Floor.labelOf, Floor.pallet_of_get (by exact hp)]
      at hanswer
    exact ⟨_, congrArg Host.Outcome.next (takeRequest_asYard hu hanswer), rfl, Tab.get_erase_same .., fun k hk =>
      Tab.get_erase_other _ hk, Tab.at_set_same .., fun k hk => Tab.at_set_other _ _ _ hk, Tab.at_set_same .., fun k hk =>
      Tab.at_set_other _ _ _ hk, rfl, rfl⟩
  case posted =>
    subst hreason
    have hloads : t.loads = false := Task.not_loads_iff.mpr (by simp [hkind])
    have hunmoved : t.unmoved = [] := by simp [Task.unmoved, hnone]
    have hfail : (u.toRun.yard.issueOver id m.toNat t).failTask u.toRun.env id t .damaged =
        ([], u.toRun.yard.ended id t.level m.toNat) := by
      simp [Yard.failTask, Yard.failNotFound, hunmoved, Yard.leavePool_issueOver (y := u.toRun.yard) hbacklog hstalled]
    rw [← other hloads] at hfail
    have hanswer := answer rfl hfail (Yard.watch_lanes rfl)
    rw [Floor.becameBytes_gone (Tab.get_erase_same ..)] at hanswer
    exact ⟨_, congrArg Host.Outcome.next (takeRequest_asYard hu hanswer), Tab.get_erase_same .., fun k hk =>
      Tab.get_erase_other _ hk, Tab.at_set_same .., fun k hk => Tab.at_set_other _ _ _ hk, Tab.at_set_same .., fun k hk =>
      Tab.at_set_other _ _ _ hk, rfl, rfl⟩
  case damaged =>
    subst hreason hnid
    have hloads : t.loads = false := Task.not_loads_iff.mpr (by simp [hkind])
    have hne : u.floor.allocId ≠ id := fun h => by rw [h, ht] at hfree; cases hfree
    have hleft : (u.toRun.yard.issueOver id m.toNat t).modTask id (fun t => t.without ref) =
        u.toRun.yard.taskLoses id m.toNat t ref := by
      simp [Yard.modTask, Yard.issueOver, Yard.taskLoses, Task.issueOver_other hloads]
    have hsize : (u.floor.tasks.put id (t.without ref)).size = u.floor.tasks.size := Tab.size_put hwf ht
    have hstate : ((u.toRun.yard.taskLoses id m.toNat t ref).departure d).state = .planned :=
      (congrArg Departure.state (Floor.departure_of_get (by exact hr))).trans hst
    have hpallet := Yard.damagedPallet_tip (env := u.toRun.env) (y := u.toRun.yard.taskLoses id m.toNat t ref) hp hkind hsrc
      hdst hl (Yard.carrier_taskLoses hwf hnext hcarried) hdep hslot (Env.profileOf_of_get he hpr) htop (by simp [hstate])
      (by simp [hstate]) (by exact decide_eq_false (Nat.not_le.mpr (hsize.trans_lt hroom)))
    have halloc : ((u.toRun.yard.taskLoses id m.toNat t ref).damaged d ref pos l n pr p).allocId = u.floor.allocId :=
      Floor.allocId_put hwf ht rfl rfl
    rw [Yard.addTask_of_alloc halloc] at hpallet
    have hsettle {v : Yard} := Yard.settleDamaged_ends (env := u.toRun.env) (id := id) (t := t.without ref) (y := v)
    have hleave {v : Yard} := Yard.leavePool_of_get (y := v) (env := u.toRun.env) (id := id) (t := t.without ref)
    have hget := (Tab.get_put_other (u.floor.tasks.put id (t.without ref))
      (newTask .relocate 0 (.door n) .exceptionBay [ref] 1 none) hne.symm).trans
      (Tab.get_put_same ..)
    have hfail := Yard.failTask_damaged hnext hleft hpallet ((hsettle hget (by simp [Task.without, hlast])
      (Task.without_unmoved hnext)).trans (hleave hget hbacklog hstalled))
    rw [← other hloads] at hfail
    have hanswer := answer rfl hfail (Yard.watch_lane_left rfl (by exact hlow) (Lane.occupancy_unexpect_le _))
    rw [Floor.becameBytes_gone (Tab.get_erase_same ..), List.map_singleton, Floor.labelOf, Floor.pallet_of_get (by exact hp)]
      at hanswer
    exact ⟨_, congrArg Host.Outcome.next (takeRequest_asYard hu hanswer), Tab.get_put_same .., fun k hk =>
      Tab.get_put_other _ _ hk, rfl, Tab.at_set_same .., fun k hk => Tab.at_set_other _ _ _ hk, Tab.get_erase_same ..,
      (Tab.get_erase_other _ hne).trans (Tab.get_put_same ..), fun k hk hk2 => (Tab.get_erase_other _ hk).trans
      ((Tab.get_put_other _ _ hk2).trans (Tab.get_put_other _ _ hk)), rfl, Tab.at_set_same .., fun k hk =>
      Tab.at_set_other _ _ _ hk, queue_joined_left _ hne rfl, rfl, rfl⟩
  case stopping =>
    subst hreason
    have hloads : t.loads = true := Task.loads_iff.mpr (.inl hkind)
    have hlastIssue := Yard.issuedLoads_issueOver (y := u.toRun.yard) (m := m.toNat) hwf hloads hissued
    have hstops := Yard.endIssue_stops (env := u.toRun.env) (y := u.toRun.yard) ht hmover hloads hdepT hr hst hlastIssue
    have hquiet : ((u.toRun.yard.putDep d { r with state := .stopped }).depNote u.toRun.env d .stopped).stalledDeps = [] :=
      Yard.stalledDeps_putDep hr (by simp) hstalled
    have hstate : (((u.toRun.yard.putDep d { r with state := .stopped }).depNote u.toRun.env d .stopped).ended id t.level
      m.toNat).departure d = { r with state := .stopped } := Tab.at_put_same ..
    have hfail := Yard.failTask_notFound hnext
      (Yard.leavePool_issueOver (env := u.toRun.env) (id := id) (t := t) (m := m.toNat) hbacklog hquiet)
      (Yard.notFoundPallet_lane (env := u.toRun.env) hp (by simp [hkind]) (Floor.carrier_erase rfl hcarried) hbacklog hdep
        hslot (Env.profileOf_of_get he hpr) htop hloc hl (by rw [hstate]; simp) (by rw [hstate]; simp))
    rw [← hstops] at hfail
    have hanswer := answer rfl hfail (Yard.watch_lane_left rfl (by exact hlow) (Lane.occupancy_filter_le ..))
    rw [Floor.becameBytes_gone (Tab.get_erase_same ..), List.map_singleton, Floor.labelOf, Floor.pallet_of_get (by exact hp)]
      at hanswer
    exact ⟨_, congrArg Host.Outcome.next (takeRequest_asYard hu hanswer), Yard.putDep_get .., fun k hk =>
      Yard.putDep_get_other _ _ hk, rfl, Tab.get_put_same .., fun k hk => Tab.get_put_other _ _ hk, Tab.at_set_same ..,
      fun k hk => Tab.at_set_other _ _ _ hk, Tab.get_erase_same .., fun k hk =>
      Tab.get_erase_other _ hk, Tab.at_set_same .., fun k hk => Tab.at_set_other _ _ _ hk, Tab.at_set_same .., fun k hk =>
      Tab.at_set_other _ _ _ hk, rfl, rfl⟩

end Sys2Proof.Machine

namespace Sys2Proof.Machine

/-! ## A task returns to its queue, R111 -/

/-- A task back in its queue after TASK FAIL BLOCKED, R108. -/
def Task.returned (t : Task) : Task := { t with mover := none, mark := false }

/-- The level queues with task `id` at the tail of level `b`, where it stood or not. -/
@[irreducible] def requeue (q : Tab (List Nat)) (b id : Nat) : Tab (List Nat) :=
  (q.set [] b ((q.at [] b).filter (· ≠ id))).set [] b (((q.set [] b ((q.at [] b).filter (· ≠ id))).at [] b) ++ [id])

theorem requeue_at (q : Tab (List Nat)) (b id k : Nat) :
    (requeue q b id).at [] k = if k = b then (q.at [] b).filter (· ≠ id) ++ [id] else q.at [] k := by
  by_cases hk : k = b
  · simp [requeue, hk]
  · simp [requeue, hk, Tab.at_set_other]

/-- The level queues after a task has returned to level `b` and then left the pool. -/
@[irreducible] def unqueue (q : Tab (List Nat)) (b id : Nat) : Tab (List Nat) :=
  (requeue q b id).set [] b (((requeue q b id).at [] b).filter (· ≠ id))

theorem unqueue_at (q : Tab (List Nat)) (b id k : Nat) :
    (unqueue q b id).at [] k = if k = b then (q.at [] k).filter (· ≠ id) else q.at [] k := by
  by_cases hk : k = b
  · subst hk
    simp [unqueue, requeue_at]
  · simp [unqueue, requeue_at, hk, Tab.at_set_other]

/-- The level queues once task `id` has returned to level `b` and left it, and task `nid` has then joined level `a`. -/
@[irreducible] def leftJoined (q : Tab (List Nat)) (b id a nid : Nat) : Tab (List Nat) :=
  (unqueue q b id).set [] a ((unqueue q b id).at [] a ++ [nid])

theorem leftJoined_at (q : Tab (List Nat)) (b id a nid k : Nat) :
    (leftJoined q b id a nid).at [] k =
      (if k = b then (q.at [] k).filter (· ≠ id) else q.at [] k) ++ (if k = a then [nid] else []) := by
  unfold leftJoined
  by_cases hk : k = a
  · subst hk
    rw [Tab.at_set_same, unqueue_at, if_pos rfl]
  · rw [Tab.at_set_other _ _ _ hk, unqueue_at, if_neg hk, List.append_nil]

/-- The floor on which mover `m`'s task `id` has returned to the tail of its level, its pallets' records being `ps`, R111. -/
def Yard.requeued (y : Yard) (id m : Nat) (t : Task) (ps : Tab Pallet) : Yard :=
  { y with
    movers := y.movers.set Mover.reset m { state := .idle, last := some id }
    tasks := y.tasks.put id t.returned
    queues := requeue y.queues t.level id
    issued := y.issued.filter (· ≠ id)
    pallets := ps }

/-- The floor on which that task has left the pool. -/
def Yard.offTask (y : Yard) (id m : Nat) (t : Task) (ps : Tab Pallet) : Yard :=
  { y with
    movers := y.movers.set Mover.reset m { state := .idle, last := some id }
    tasks := y.tasks.erase id
    queues := unqueue y.queues t.level id
    issued := y.issued.filter (· ≠ id)
    pallets := ps }

section

variable {y : Yard} {env : Env} {id m d l ref : Nat} {t : Task} {p : Pallet} {ps : Tab Pallet}

/-- The queue's part of a return to the task's own level, R111. -/
theorem Yard.requeued_eq :
    ({ ((y.issueOver id m t).dequeue t.level id).modTask id (fun x =>
        { x with level := t.level, mover := none, mark := false }) with
      issued := y.issued.filter (· ≠ id) } : Yard).enqueue t.level id = y.requeued id m t y.pallets := by
  simp only [Yard.modTask, Yard.dequeue, Yard.setQueue, Yard.issueOver, Yard.requeued, requeue, Tab.modify_put]
  rfl

theorem Yard.issueOver_get : (y.issueOver id m t).tasks.get id = some t.issueOver := Tab.get_put_same ..

/-- The return of a task without pallets that is no load task, R111. -/
theorem Yard.returnTask_empty (hloads : t.loads = false) (hnone : t.unmoved = []) :
    (y.issueOver id m t).returnTask env id t.level false = y.requeued id m t y.pallets := by
  have hloads' : t.issueOver.loads = false := hloads
  have hnone' : t.issueOver.unmoved = [] := hnone
  simp only [Yard.returnTask, Yard.issueOver_get, hnone', hloads', List.foldl_nil]
  exact Yard.requeued_eq

/-- The pallet of a LOAD task that stands in a lane is IN LANE again, R58. -/
theorem Yard.returnPallet_load (hkind : t.kind = .load) (hp : y.pallets.get ref = some p) (hloc : p.loc = some (.floor l)) :
    y.returnPallet env id t ref = { y with pallets := y.pallets.put ref { p with state := .inLane } } := by
  have hrest : t.restState p.loc = .inLane := by simp only [Task.restState, hkind, hloc]
  have hmod : y.modPallet ref (fun q => { q with state := t.restState q.loc }) =
      { y with pallets := y.pallets.put ref { p with state := .inLane } } := by
    rw [Yard.modPallet, Tab.modify_of_get _ hp, hrest]
  simp only [Yard.returnPallet, hmod]
  exact if_neg (by simp [hkind])

/-- The return of a LOAD task whose pallet stands in a lane: departure control is told, R42, R111. -/
theorem Yard.returnTask_load (hkind : t.kind = .load) (hdep : t.dep = some d) (hnext : t.unmoved = [ref])
    (hp : y.pallets.get ref = some p) (hloc : p.loc = some (.floor l)) :
    (y.issueOver id m t).returnTask env id t.level false =
      (y.requeued id m t (y.pallets.put ref { p with state := .inLane })).loadReturned env id d ref := by
  have hloads : t.issueOver.loads = true := Task.loads_iff.mpr (.inl hkind)
  have hnext' : t.issueOver.unmoved = [ref] := hnext
  have hdep' : t.issueOver.dep = some d := hdep
  have hpallet := Yard.returnPallet_load (y := y.requeued id m t y.pallets) (env := env) (id := id) (t := t.issueOver) hkind hp
    hloc
  simp only [Yard.returnTask, Yard.issueOver_get, hnext', hloads, hdep', List.foldl_cons, List.foldl_nil]
  refine congrArg (Yard.loadReturned · env id d ref) (Eq.trans ?_ hpallet)
  exact congrArg (Yard.returnPallet · env id t.issueOver ref) Yard.requeued_eq

theorem Yard.requeued_get : (y.requeued id m t ps).tasks.get id = some t.returned := Tab.get_put_same ..

/-- Inside its margin a LOADING departure leaves the returned task at level 6, R42. -/
theorem Yard.loadReturned_margin {r : Departure} (hloads : t.loads = true) (hdep : t.dep = some d)
    (hr : y.departures.get d = some r) (hst : r.state = .loading) (hmargin : r.marginMark = true) (hlevel : t.level < 6) :
    (y.requeued id m t ps).loadReturned env id d ref =
      { y.requeued id m t ps with
        tasks := y.tasks.put id { t.returned with level := 6 }
        queues := leftJoined y.queues t.level id 6 id } := by
  have hrecord : (y.requeued id m t ps).departure d = r := Floor.departure_of_get hr
  have hreturn : (y.requeued id m t ps).returnLevel t.returned t.level = 6 := by
    have hdep' : t.returned.dep = some d := hdep
    have hloads' : t.returned.loads = true := hloads
    simp [Floor.returnLevel, hdep', hloads', hrecord, hst, hmargin, hlevel]
  have hne : ¬6 = t.level := by omega
  simp only [Yard.loadReturned, Yard.requeued_get, hrecord, hst]
  rw [show t.returned.level = t.level from rfl, hreturn, if_neg hne]
  simp only [Yard.modTask, Yard.dequeue, Yard.enqueue, Yard.setQueue, Yard.requeued, leftJoined, unqueue, Tab.modify_put]
  rfl

/-- The returned task leaves the pool, R93. -/
theorem Yard.leavePool_requeued (hbacklog : y.backlog = []) (hstalled : y.stalledDeps = []) :
    (y.requeued id m t ps).leavePool env id = y.offTask id m t ps := by
  have hissued : (y.issued.filter (· ≠ id)).filter (· ≠ id) = y.issued.filter (· ≠ id) := by simp
  rw [Yard.leavePool_of_get Yard.requeued_get hbacklog hstalled]
  simp only [Yard.requeued, Yard.offTask, unqueue, Tab.erase_put, hissued]
  rfl

/-- A STOPPING or STOPPED departure takes the release back, R42. -/
theorem Yard.loadReturned_stopped {r : Departure} (hr : y.departures.get d = some r)
    (hst : r.state = .stopping ∨ r.state = .stopped) (hbacklog : y.backlog = []) (hstalled : y.stalledDeps = []) :
    (y.requeued id m t ps).loadReturned env id d ref =
      ((y.offTask id m t ps).shiftStatus d ref .released .planned).evaluate env d := by
  have hrecord : (y.requeued id m t ps).departure d = r := Floor.departure_of_get hr
  simp only [Yard.loadReturned, Yard.requeued_get, hrecord]
  rcases hst with hst | hst <;> simp only [hst, Yard.leavePool_requeued hbacklog hstalled]

/-- A CUT departure gives the pallet up to re-routing, R42. -/
theorem Yard.loadReturned_cut {r : Departure} (hr : y.departures.get d = some r) (hst : r.state = .cut)
    (hbacklog : y.backlog = []) (hstalled : y.stalledDeps = []) :
    (y.requeued id m t ps).loadReturned env id d ref =
      ((((y.offTask id m t ps).removeEntry env .cut ref).2).rerouteTold env .cut d ref).2 := by
  have hrecord : (y.requeued id m t ps).departure d = r := Floor.departure_of_get hr
  simp only [Yard.loadReturned, Yard.requeued_get, hrecord, hst, Yard.leavePool_requeued hbacklog hstalled]

/-- A pallet in a lane, on top of its stack on a CUT departure, that no other departure may take is HELD, R42, R71. -/
theorem Yard.loadReturned_held {r : Departure} {pr : Profile} {pos tier nid : Nat} (ht : y.tasks.get id = some t)
    (hloc : p.loc = some (.floor l)) (hr : y.departures.get d = some r)
    (hst : r.state = .cut) (hbacklog : y.backlog = []) (hstalled : y.stalledDeps = []) (hsize : y.tasks.size ≤ 1024)
    (hl : 2 ≤ l) (hdep : p.dep = some d) (hslot : p.slot = some (pos, tier)) (hpr : env.profileOf d = some pr)
    (htop : ((y.deck d).stackAt pos).length = tier) (hlist : env.routeFor p (some d) = [])
    (hcarried : ∀ c ∈ y.tasks.cells, ref ∈ c.2.unmoved → c.1 = id)
    (hnid : nid = ({ y.toFloor with tasks := y.tasks.erase id } : Floor).allocId) :
    (y.requeued id m t (y.pallets.put ref { p with state := .inLane })).loadReturned env id d ref =
      ({ y.offTask id m t (y.pallets.put ref { p with state := .held, dep := none, slot := none }) with
        decks := y.decks.put d ((y.deck d).pull pr pos ref p.weight)
        tasks := (y.tasks.erase id).put nid (newTask .relocate 1 (.floor l) .holdBay [ref] 1 none)
        nextId := idAfter nid
        queues := leftJoined y.queues t.level id 1 nid } : Yard).note env d
        (.pallet p.label (.held .cut)) := by
  have hget : (y.pallets.put ref { p with state := .inLane }).get ref = some { p with state := .inLane } :=
    Tab.get_put_same ..
  have hfree := Floor.carrier_erase (g := (y.offTask id m t (y.pallets.put ref { p with state := .inLane })).toFloor) rfl
    hcarried
  have hcut : (y.departure d).state = .cut := (congrArg Departure.state (Floor.departure_of_get hr)).trans hst
  have hquiet := Yard.evaluate_of_state (env := env) (d := d) (y := (y.offTask id m t (y.pallets.put ref
      { p with state := .inLane })).pulled d ref pos pr { p with state := .inLane })
    (fun h => by cases hcut.symm.trans h) (fun h => by cases hcut.symm.trans h)
  have hremove := (Yard.removeEntry_top (env := env) (cause := .cut) (y := y.offTask id m t (y.pallets.put ref
    { p with state := .inLane })) hget hdep hslot hpr htop.le hfree).trans (congrArg (Prod.mk 0) hquiet)
  have hheld := Yard.rerouteTold_none (Yard.reroute_held (env := env) (cause := .cut) (former := d) (l := l)
    (y := (y.offTask id m t (y.pallets.put ref { p with state := .inLane })).pulled d ref pos pr { p with state := .inLane })
    (Tab.get_put_same ..) rfl hloc hl hfree (Floor.backlogOf_empty hbacklog)
    (decide_eq_false (Nat.not_le.mpr ((Tab.size_erase_lt ht).trans_le hsize)))
    (fun k hk => by cases (show k ∈ [] from hlist ▸ hk)))
  rw [Yard.loadReturned_cut hr hst hbacklog hstalled, hremove, hheld, Yard.addTask_of_alloc (nid := nid) hnid.symm]
  simp only [Yard.pulled, Yard.offTask, leftJoined, Tab.put_put]
  rfl

/-- With no other load task of the departure ISSUED, none is once this one is off the pool, R45. -/
theorem Floor.issuedLoads_erase {f g : Floor} (hg : g.tasks = f.tasks.erase id)
    (hissued : ∀ c ∈ f.tasks.cells, c.2.loads = true → c.2.dep = some d → c.2.isIssued = true → c.1 = id) :
    g.issuedLoads d = 0 := by
  rw [Floor.issuedLoads, hg, List.length_eq_zero_iff, List.filter_eq_nil_iff]
  intro t' ht'
  obtain ⟨c, hc, rfl⟩ := List.mem_map.mp ht'
  obtain ⟨hmem, hne⟩ := Tab.mem_erase.mp hc
  intro hall
  simp only [Bool.and_eq_true, beq_iff_eq] at hall
  exact hne (hissued c hmem hall.1.1 hall.1.2 hall.2)

/-- A BLOCKED load task of a STOPPING departure with no other ISSUED: whether the end of STOPPING is judged as the issue ends
or once the task has left the pool, the departure is STOPPED and the release taken back, R42, R45. -/
theorem Yard.failBlocked_stopping {r : Departure} (ht : y.tasks.get id = some t) (hmover : t.mover = some m)
    (hkind : t.kind = .load) (hdep : t.dep = some d) (hnext : t.unmoved = [ref]) (hp : y.pallets.get ref = some p)
    (hloc : p.loc = some (.floor l)) (hr : y.departures.get d = some r) (hst : r.state = .stopping)
    (hbacklog : y.backlog = []) (hstalled : y.stalledDeps = []) (hmute : env.mute.contains d = false)
    (hissued : ∀ c ∈ y.tasks.cells, c.2.loads = true → c.2.dep = some d → c.2.isIssued = true → c.1 = id) :
    (y.endIssue env id t false).failBlocked env id t =
      (((y.putDep d { r with state := .stopped }).depNote env d .stopped).offTask id m t
        (y.pallets.put ref { p with state := .inLane })).shiftStatus d ref .released .planned := by
  have hloads : t.loads = true := Task.loads_iff.mpr (.inl hkind)
  by_cases hlast : (y.issueOver id m t).issuedLoads d = 0
  · have hquiet : ((y.putDep d { r with state := .stopped }).depNote env d .stopped).stalledDeps = [] :=
      Yard.stalledDeps_putDep hr (by simp) hstalled
    have hrecord : ((y.putDep d { r with state := .stopped }).depNote env d .stopped).departures.get d =
        some { r with state := .stopped } := Yard.putDep_get ..
    rw [Yard.endIssue_stops ht hmover hloads hdep hr hst hlast]
    refine (Yard.returnTask_load (y := (y.putDep d { r with state := .stopped }).depNote env d .stopped) hkind hdep hnext hp
      hloc).trans ((Yard.loadReturned_stopped hrecord (.inr rfl) hbacklog hquiet).trans (Yard.evaluate_of_state ?_ ?_))
    · exact fun h => by cases (congrArg Departure.state (Floor.departure_of_get hrecord)).symm.trans h
    · exact fun h => by cases (congrArg Departure.state (Floor.departure_of_get hrecord)).symm.trans h
  · have hover : y.endIssue env id t false = y.issueOver id m t := by
      rw [Yard.endIssue_eq ht hmover, Yard.toldEnded, hloads, hdep]
      exact if_neg fun h => hlast h.2
    have hstate : (((y.offTask id m t (y.pallets.put ref { p with state := .inLane })).shiftStatus d ref .released
        .planned).departure d).state = .stopping := (congrArg Departure.state (Floor.departure_of_get (by exact hr))).trans hst
    have hstop := Yard.stopTest_of_last (env := env) hstate (Floor.issuedLoads_erase (f := y.toFloor) rfl hissued)
    rw [hover]
    refine (Yard.returnTask_load hkind hdep hnext hp hloc).trans
      ((Yard.loadReturned_stopped hr (.inl hst) hbacklog hstalled).trans ?_)
    rw [Yard.evaluate, hmute, if_neg (by simp), Yard.release_of_state (by simp [hstate]),
      Yard.loadedTest_of_state (by simp [hstate]), hstop, Yard.modDep_of_get (r := r) _ (by exact hr)]
    have hdeck : (((y.offTask id m t (y.pallets.put ref { p with state := .inLane })).shiftStatus d ref .released
        .planned).putDep d { r with state := .stopped }).deck d = (y.deck d).shift ref .released .planned :=
      Tab.at_put_same ..
    rw [Yard.depNote_eq hdeck]
    rfl

end

/-- A task that has left the pool counts as ended, a new and unissued task of the same id too, R106. -/
theorem Floor.becameBytes_replaced {f : Floor} {ts : Tab Task} {id nid : Nat} {q : Task}
    (hf : f.tasks = (ts.erase id).put nid q) (hq : q.lastMover = none) : f.becameBytes id = [0#8, 0#8] := by
  by_cases hid : id = nid
  · rw [Floor.becameBytes, hf, hid, Tab.get_put_same]
    simp only [hq]
    rfl
  · exact Floor.becameBytes_gone (by rw [hf, Tab.get_put_other _ _ hid, Tab.get_erase_same])

/-- A task that has been issued is reported as QUEUED at its level, R106. -/
theorem Floor.becameBytes_queued {f : Floor} {id m : Nat} {t : Task} (ht : f.tasks.get id = some t)
    (hlast : t.lastMover = some m) : f.becameBytes id = [1#8] ++ le8 t.level := by
  rw [Floor.becameBytes, ht]
  simp [hlast]
  rfl

/-- Settles O41: the clauses follow the state of the task's departure. -/
theorem blockedTaskReturnsToItsQueue : Obligations.BlockedTaskReturnsToItsQueue := by
  refine ⟨fun s u tag m id t hid hu h1 h24 hopen ht hkind hnone hmover hlast => ?posted, fun s u tag m id l d ref t p r hid hu h1
    h24 hopen ht hsize hkind hsrc hl hdep hnext hmover hlast hp hloc hr hbacklog hstalled => ⟨fun hst hmargin hlevel => ?margin,
      fun hst hissued => ?stopped, fun e pr pos tier nid hst hdepP hslot he hpr htop hlist hcarried hnid => ?cut⟩⟩
  all_goals
    have answer {z} hfail := answerTaskFail_current (y := u.toRun.yard) (env := u.toRun.env) (c := 2#8) (reason := .blocked)
      (refs := []) (z := z) hid h1 h24 hopen ht hmover rfl hfail
  case posted =>
    have hloads : t.loads = false := Task.not_loads_iff.mpr (by simp [hkind])
    have hfail : (u.toRun.yard.endIssue u.toRun.env id t false).failTask u.toRun.env id t .blocked =
        ([], u.toRun.yard.requeued id m.toNat t u.toRun.yard.pallets) := by
      rw [Yard.endIssue_other ht hmover hloads]
      exact congrArg (Prod.mk []) (Yard.returnTask_empty hloads (by simp [Task.unmoved, hnone]))
    have hanswer := answer hfail (Yard.watch_lanes rfl)
    rw [Floor.becameBytes_queued Yard.requeued_get hlast] at hanswer
    exact ⟨_, congrArg Host.Outcome.next (takeRequest_asYard hu hanswer), Tab.at_set_same .., fun k hk =>
      Tab.at_set_other _ _ _ hk, Tab.get_put_same .., fun k hk => Tab.get_put_other _ _ hk, (requeue_at ..).trans (if_pos rfl),
      fun k hk => (requeue_at ..).trans (if_neg hk), rfl, rfl⟩
  all_goals
    have hloads : t.loads = true := Task.loads_iff.mpr (.inl hkind)
    have returned {w} (hover : u.toRun.yard.endIssue u.toRun.env id t false = u.toRun.yard.issueOver id m.toNat t)
        (hreturned : (u.toRun.yard.requeued id m.toNat t (u.toRun.yard.pallets.put ref { p with state := .inLane })).loadReturned
          u.toRun.env id d ref = w) :
        (u.toRun.yard.endIssue u.toRun.env id t false).failTask u.toRun.env id t .blocked = ([], w) := by
      rw [hover]
      exact congrArg (Prod.mk []) ((Yard.returnTask_load hkind hdep hnext hp hloc).trans hreturned)
    have ends (hst : r.state ≠ .stopping) := Yard.endIssue_load (env := u.toRun.env) (y := u.toRun.yard) ht hmover hloads hdep
      (by rwa [Floor.departure_of_get (by exact hr)])
    have hqueue (k : Nat) := unqueue_at u.toRun.yard.queues t.level id k
  case margin =>
    have hanswer := answer (returned (ends (by simp [hst])) (Yard.loadReturned_margin hloads hdep hr hst hmargin hlevel))
      (Yard.watch_lanes rfl)
    rw [Floor.becameBytes_queued (t := { t.returned with level := 6 }) (Tab.get_put_same ..) hlast] at hanswer
    have h6 : 6 ≠ t.level := by omega
    have hlevel (k : Nat) := leftJoined_at u.toRun.yard.queues t.level id 6 id k
    exact ⟨_, congrArg Host.Outcome.next (takeRequest_asYard hu hanswer), Tab.at_set_same .., fun k hk =>
      Tab.at_set_other _ _ _ hk, Tab.get_put_same .., fun k hk => Tab.get_put_other _ _ hk,
      (hlevel 6).trans (by rw [if_neg h6, if_pos rfl]; rfl),
      (hlevel t.level).trans (by rw [if_pos rfl, if_neg h6.symm, List.append_nil]; rfl),
      fun k hk6 hk => (hlevel k).trans (by rw [if_neg hk, if_neg hk6, List.append_nil]; rfl), rfl, rfl, rfl⟩
  case stopped =>
    rcases hst with hst | hst
    · have hfail := congrArg (Prod.mk ([] : List Nat)) (Yard.failBlocked_stopping (env := u.toRun.env) (y := u.toRun.yard) ht
        hmover hkind hdep hnext hp hloc hr hst hbacklog hstalled rfl hissued)
      have hanswer := answer hfail (Yard.watch_lanes rfl)
      rw [Floor.becameBytes_gone (Tab.get_erase_same ..)] at hanswer
      rw [if_pos hst]
      exact ⟨_, congrArg Host.Outcome.next (takeRequest_asYard hu hanswer), Tab.at_set_same .., fun k hk =>
        Tab.at_set_other _ _ _ hk, Tab.get_erase_same .., fun k hk => Tab.get_erase_other _ hk, (hqueue _).trans (if_pos rfl),
        fun k hk => (hqueue k).trans (if_neg hk), rfl, rfl, rfl, Yard.putDep_get .., fun k hk => Yard.putDep_get_other _ _ hk,
        rfl⟩
    · have hquiet := Yard.evaluate_of_state (env := u.toRun.env) (d := d)
        (y := (u.toRun.yard.offTask id m.toNat t (u.toRun.yard.pallets.put ref { p with state := .inLane })).shiftStatus d ref
          .released .planned)
        (by rw [Floor.departure_of_get (by exact hr), hst]; simp) (by rw [Floor.departure_of_get (by exact hr), hst]; simp)
      have hanswer := answer (returned (ends (by simp [hst]))
        ((Yard.loadReturned_stopped hr (.inr hst) hbacklog hstalled).trans hquiet)) (Yard.watch_lanes rfl)
      rw [Floor.becameBytes_gone (Tab.get_erase_same ..)] at hanswer
      have hsame : { r with state := .stopped } = r := by rw [← hst]
      rw [if_neg (by simp [hst]), hsame]
      exact ⟨_, congrArg Host.Outcome.next (takeRequest_asYard hu hanswer), Tab.at_set_same .., fun k hk =>
        Tab.at_set_other _ _ _ hk, Tab.get_erase_same .., fun k hk => Tab.get_erase_other _ hk, (hqueue _).trans (if_pos rfl),
        fun k hk => (hqueue k).trans (if_neg hk), rfl, rfl, rfl, hr, fun k hk => rfl, rfl⟩
  case cut =>
    have hreturned := Yard.loadReturned_held (y := u.toRun.yard) (env := u.toRun.env) (m := m.toNat) ht hloc hr hst hbacklog
      hstalled hsize hl hdepP hslot (Env.profileOf_of_get he hpr) htop hlist hcarried hnid
    have hanswer := answer (returned (ends (by simp [hst])) hreturned) (Yard.watch_lanes rfl)
    rw [Floor.becameBytes_replaced rfl rfl] at hanswer
    exact ⟨_, congrArg Host.Outcome.next (takeRequest_asYard hu hanswer), Tab.at_set_same .., fun k hk =>
      Tab.at_set_other _ _ _ hk, rfl, leftJoined_at _ _ _ _ _, rfl, Tab.get_put_same .., fun k hk => Tab.get_put_other _ _ hk,
      rfl, rfl⟩

end Sys2Proof.Machine

namespace Sys2Proof.Machine

/-! ## The moves that the pieces of a scan share, R68 -/

/-- The pieces that share the move `k`, in label order. -/
def piecesOf (fates : List (Nat × Fate)) (k : MoveKey) : List Nat := (fates.filter fun z => z.2.move = some k).map (·.1)

theorem piecesOf_append (fates : List (Nat × Fate)) (x : Nat × Fate) (k : MoveKey) :
    piecesOf (fates ++ [x]) k = piecesOf fates k ++ if x.2.move = some k then [x.1] else [] := by
  by_cases hk : x.2.move = some k <;> simp [piecesOf, List.filter_append, hk]

theorem groupMoves_append_unmoved (fates : List (Nat × Fate)) {x : Nat × Fate} (h : x.2.move = none) :
    groupMoves (fates ++ [x]) = groupMoves fates := by simp [groupMoves, List.foldl_append, h]

theorem groupMoves_append_moved (fates : List (Nat × Fate)) {x : Nat × Fate} {k : MoveKey} (h : x.2.move = some k) :
    groupMoves (fates ++ [x]) = addToGroup k x.1 (groupMoves fates) := by simp [groupMoves, List.foldl_append, h]

/-- A new group stands at the end, R68. -/
theorem addToGroup_keys (k : MoveKey) (ref : Nat) : ∀ gs : List (MoveKey × List Nat),
    (addToGroup k ref gs).map (·.1) = gs.map (·.1) ++ if k ∈ gs.map (·.1) then [] else [k]
  | [] => by simp [addToGroup]
  | (j, refs) :: rest => by
    by_cases hj : j = k
    · simp [addToGroup, hj]
    · have hmem : k ∈ ((j, refs) :: rest).map (·.1) ↔ k ∈ rest.map (·.1) := by
        rw [List.map_cons, List.mem_cons, or_iff_right (Ne.symm hj)]
      rw [addToGroup, if_neg hj, List.map_cons, addToGroup_keys k ref rest]
      simp only [hmem]
      rfl

/-- Adding a piece to the groups `pieces k` of the moves `ks`, whose group is empty where it is not listed. -/
theorem addToGroup_map {pieces : MoveKey → List Nat} {j : MoveKey} {ref : Nat} : ∀ {ks : List MoveKey}, ks.Nodup →
    (j ∉ ks → pieces j = []) → addToGroup j ref (ks.map fun k => (k, pieces k)) =
      (ks ++ if j ∈ ks then [] else [j]).map fun k => (k, pieces k ++ if j = k then [ref] else [])
  | [], _, hnew => by simp [addToGroup, hnew]
  | k :: ks, hnodup, hnew => by
    obtain ⟨hk, hks⟩ := List.nodup_cons.mp hnodup
    by_cases hj : k = j
    · subst hj
      have hsame : ∀ i ∈ ks, (i, pieces i) = (i, pieces i ++ if k = i then [ref] else []) := fun i hi => by
        rw [if_neg fun h : k = i => hk (h ▸ hi), List.append_nil]
      simp [addToGroup, List.map_congr_left hsame]
    · have hrest := addToGroup_map (ref := ref) hks fun h => hnew (by simp [h, Ne.symm hj])
      have hmem : j ∈ k :: ks ↔ j ∈ ks := by simp [Ne.symm hj]
      simp only [List.map_cons, addToGroup, if_neg hj, hrest, hmem, List.cons_append, if_neg (Ne.symm hj), List.append_nil]

/-- The groups of a scan: each move that a piece has once, with the pieces that share it, R68. -/
theorem groupMoves_eq (fates : List (Nat × Fate)) : ∃ ks : List MoveKey, ks.Nodup ∧
    (∀ k, k ∈ ks ↔ piecesOf fates k ≠ []) ∧ groupMoves fates = ks.map fun k => (k, piecesOf fates k) := by
  induction fates using List.reverseRecOn with
  | nil => exact ⟨[], List.nodup_nil, fun k => by simp [piecesOf], rfl⟩
  | append_singleton fates x ih =>
    obtain ⟨ks, hnodup, hkeys, hgroups⟩ := ih
    cases hmove : x.2.move with
    | none =>
      have hsame (k : MoveKey) : piecesOf (fates ++ [x]) k = piecesOf fates k := by simp [piecesOf_append, hmove]
      refine ⟨ks, hnodup, fun k => by rw [hsame, hkeys], ?_⟩
      simp only [groupMoves_append_unmoved fates hmove, hgroups, hsame]
    | some j =>
      have hpieces (k : MoveKey) : piecesOf (fates ++ [x]) k = piecesOf fates k ++ if j = k then [x.1] else [] := by
        simp [piecesOf_append, hmove]
      have hnew (h : j ∉ ks) : piecesOf fates j = [] := by simpa using (hkeys j).not.mp h
      refine ⟨ks ++ if j ∈ ks then [] else [j], ?_, fun k => ?_, ?_⟩
      · by_cases hj : j ∈ ks
        · simpa [hj] using hnodup
        · simpa [hj, List.nodup_append, hnodup] using fun i hi (h : i = j) => hj (h ▸ hi)
      · by_cases hk : j = k
        · subst hk
          by_cases hj : j ∈ ks <;> simp [hj, hpieces]
        · by_cases hj : j ∈ ks <;> simp [hj, hpieces, hk, Ne.symm hk, hkeys]
      · simp only [groupMoves_append_moved fates hmove, hgroups, addToGroup_map hnodup hnew, hpieces]

/-- What R68 says of the groups. -/
theorem groupMoves_spec (fates : List (Nat × Fate)) (x : Nat × Fate) : ((groupMoves fates).map (·.1)).Nodup ∧
    (∀ k refs, (k, refs) ∈ groupMoves fates ↔ refs ≠ [] ∧ refs = piecesOf fates k) ∧
    (groupMoves (fates ++ [x])).map (·.1) = (groupMoves fates).map (·.1) ++
      (x.2.move.toList.filter fun k => k ∉ (groupMoves fates).map (·.1)) := by
  refine ⟨?nodup, fun k refs => ?groups, ?order⟩
  case order =>
    cases hmove : x.2.move with
    | none => simp [groupMoves_append_unmoved fates hmove]
    | some k =>
      rw [groupMoves_append_moved fates hmove, addToGroup_keys]
      by_cases hk : k ∈ (groupMoves fates).map (·.1)
      · rw [if_pos hk, Option.toList_some, List.filter_singleton, decide_eq_false (not_not.mpr hk)]
        rfl
      · rw [if_neg hk, Option.toList_some, List.filter_singleton, decide_eq_true hk]
        rfl
  all_goals obtain ⟨ks, hnodup, hkeys, hgroups⟩ := groupMoves_eq fates
  case nodup => simpa [hgroups, Function.comp_def] using hnodup
  case groups =>
    rw [hgroups, List.mem_map]
    constructor
    · rintro ⟨k, hk, hpair⟩
      cases hpair
      exact ⟨(hkeys k).mp hk, rfl⟩
    · rintro ⟨hne, rfl⟩
      exact ⟨k, (hkeys k).mpr hne, rfl⟩

end Sys2Proof.Machine

namespace Sys2Proof.Machine

/-! ## PALLET IN up to the decisions, R62, R63 -/

/-- Where the record of a single piece goes: a label that is not live takes the lowest free place, with flag 0, and a MISSING
one is revived in its place, its consignment `cons` kept, with flag 1, R62, R63. -/
def Floor.scanPlace (f : Floor) (label ref flag : Nat) (cons : Option Nat) : Prop :=
  f.refOf label = none ∧ f.pallets.size < 4096 ∧ ref = lowestFree 0 f.pallets.cells ∧
      f.pallets.get ref = none ∧ cons = none ∧ flag = 0 ∨
    f.refOf label = some ref ∧ flag = 1 ∧
      ∃ q, f.pallets.get ref = some q ∧ q.label = label ∧ q.state = .missing ∧ q.consignment = cons

/-- A scan that passes the checks of R62 steps 1 to 4. -/
structure Scan.Read (sc : Scan) (body : List Byte) (env : Env) (f : Floor) : Prop where
  length : body.length = 16
  zero : u8 body 9 = 0
  scan : readScan body = some sc
  isOpen : env.isOpen = true
  tipping : (f.door sc.door).underlying = .tipping

/-- The tips once `k` more pieces have been scanned at door `n`, R60. -/
def Floor.scannedTips (f : Floor) (n k : Nat) : Tab Tip :=
  f.tips.set Tip.clear n { f.tip n with scanned := satAdd Config.countMax (f.tip n).scanned k }

/-- Creates a task for the move of the pieces `refs` and counts them as scanned at the door. -/
theorem Yard.addTask_countScans (y : Yard) (t : Task) (n k : Nat) :
    (y.addTask t).countScans n k =
      { y with
        tasks := y.tasks.put y.allocId t
        nextId := idAfter y.allocId
        queues := y.queues.set [] t.level (y.queue t.level ++ [y.allocId])
        tips := y.scannedTips n k } := rfl

section

variable {sc : Scan} {body : List Byte} {env : Env} {y : Yard}

/-- PALLET IN of one piece, R62, R63. -/
theorem answerPalletIn_one {ref flag : Nat} {cons : Option Nat} (hread : sc.Read body env y.toFloor) (hone : sc.pieces = 1)
    (hplace : y.scanPlace sc.first ref flag cons) :
    answerPalletIn body env y =
      (y.setPallet ref (sc.record env y sc.first cons)).takeScan env sc flag [ref] y.toFloor := by
  obtain ⟨hlen, hzero, hscan, hopen, htip⟩ := hread
  unfold answerPalletIn
  rw [if_neg (by simp [hlen, hzero]), hscan]
  simp only [hopen, htip, hone]
  rcases hplace with ⟨hnew, hroom, rfl, -, rfl, rfl⟩ | ⟨hlive, rfl, q, hq, hlabel, hmissing, rfl⟩
  · have hlabels : sc.labels = [sc.first] := by rw [Scan.labels, hone]; rfl
    have hfull : ¬Config.maxPallets < y.pallets.size + 1 := Nat.not_lt.mpr hroom
    simp only [hnew]
    simp [Yard.scanFresh, hone, hlabels, hfull, createRecords]
  · simp only [hlive]
    simp [Yard.rescan, Floor.pallet_of_get hq, hmissing, hlabel]

/-- PALLET IN of several pieces with no label live, R62. -/
theorem answerPalletIn_several {refs : List Nat} {z : Yard} (hread : sc.Read body env y.toFloor) (hmany : 1 < sc.pieces)
    (hnew : ∀ k, k < sc.pieces → y.refOf (sc.first + k) = none) (hroom : y.pallets.size + sc.pieces ≤ 4096)
    (hrecords : createRecords env sc (some sc.first) sc.labels y = (refs, z)) :
    answerPalletIn body env y = z.takeScan env sc 0 refs y.toFloor := by
  obtain ⟨hlen, hzero, hscan, hopen, htip⟩ := hread
  have hany : (sc.labels.any fun label => (y.refOf label).isSome) = false := by
    rw [List.any_eq_false]
    intro label hlabel
    obtain ⟨k, hk, rfl⟩ := List.mem_range'.mp hlabel
    simp [hnew k hk]
  have hfull : ¬Config.maxPallets < y.pallets.size + sc.pieces := Nat.not_lt.mpr hroom
  unfold answerPalletIn
  rw [if_neg (by simp [hlen, hzero]), hscan]
  simp only [hopen, htip, hany]
  simp [Yard.scanFresh, hfull, hmany, hrecords, (Nat.ne_of_lt hmany).symm]

/-! ## The decisions' moves and the reply, R68, R69 -/

variable {before : Floor} {flag : Nat} {refs : List Nat}

/-- A scan of which all pieces share the move `k`, R68. -/
theorem Yard.takeScan_moved {fates : List (Nat × Fate)} {placed z : Yard} {k : MoveKey}
    (hplace : placePieces env sc refs y = (fates, placed)) (hgroups : groupMoves fates = [(k, refs)])
    (hroom : y.tasks.size < 1024)
    (heval : (fates.filterMap fun x => x.2.dep).foldl (fun z d => z.evaluate env d)
      ((placed.addTask (sc.task k refs)).countScans sc.door refs.length) = z)
    (hwatch : z.watch env before = z) :
    y.takeScan env sc flag refs before =
      .done (le8 flag ++ le8 fates.length ++ fates.flatMap (z.outcomeBytes [(k, placed.allocId)])) z := by
  have hfull : ¬Config.poolSize < y.tasks.size + 1 := Nat.not_lt.mpr hroom
  simp only [Yard.takeScan, hplace, hgroups, List.length_singleton, if_neg hfull, createGroups, heval, hwatch]

/-- A scan that asks for no move, R67. -/
theorem Yard.takeScan_unmoved {fates : List (Nat × Fate)} {placed z : Yard}
    (hplace : placePieces env sc refs y = (fates, placed)) (hgroups : groupMoves fates = [])
    (hroom : y.tasks.size < 1024)
    (heval : (fates.filterMap fun x => x.2.dep).foldl (fun z d => z.evaluate env d)
      (placed.countScans sc.door refs.length) = z)
    (hwatch : z.watch env before = z) :
    y.takeScan env sc flag refs before = .done (le8 flag ++ le8 fates.length ++ fates.flatMap (z.outcomeBytes [])) z := by
  have hfull : ¬Config.poolSize < y.tasks.size + 0 := Nat.not_lt.mpr hroom.le
  simp only [Yard.takeScan, hplace, hgroups, List.length_nil, if_neg hfull, createGroups, heval, hwatch]

theorem placePieces_one {ref : Nat} {fate : Fate} {placed : Yard} (h : y.placePiece env sc ref = (fate, placed)) :
    placePieces env sc [ref] y = ([(ref, fate)], placed) := by
  simp [placePieces, h]

@[simp] theorem idOf_one (k : MoveKey) (id : Nat) : idOf [(k, id)] k = id := by simp [idOf]

/-! ### The outcome of one piece, Table 10-5 -/

section

variable {f : Floor} {ref d pos tier l id : Nat} {p : Pallet} (hp : f.pallets.get ref = some p)

include hp

theorem Floor.outcomeBytes_lane (hslot : p.slot = some (pos, tier)) :
    f.outcomeBytes [(.tip l, id)] (ref, .lane d l) =
      le32 p.label ++ ([1#8] ++ le8 d ++ le8 pos ++ le8 tier ++ le8 l ++ [0#8] ++ le16 id) := by
  simp only [Floor.outcomeBytes, Floor.pallet_of_get hp, idOf_one, hslot]
  rfl

theorem Floor.outcomeBytes_door (hslot : p.slot = some (pos, tier)) :
    f.outcomeBytes [] (ref, .door d) =
      le32 p.label ++ ([2#8] ++ le8 d ++ le8 pos ++ (le8 tier ++ [0#8, 0#8, 0#8, 0#8])) := by
  simp only [Floor.outcomeBytes, Floor.pallet_of_get hp, hslot]
  rfl

theorem Floor.outcomeBytes_held :
    f.outcomeBytes [(.hold, id)] (ref, .held) = le32 p.label ++ ([3#8, 0#8, 0#8, 0#8, 0#8, 0#8] ++ le16 id) := by
  simp only [Floor.outcomeBytes, Floor.pallet_of_get hp, idOf_one]
  rfl

theorem Floor.outcomeBytes_damaged :
    f.outcomeBytes [(.exceptionBay, id)] (ref, .exception .damaged) =
      le32 p.label ++ ([4#8, 0#8, 0#8, 0#8, 0#8, 5#8] ++ le16 id) := by
  simp only [Floor.outcomeBytes, Floor.pallet_of_get hp, idOf_one]
  rfl

end

end

end Sys2Proof.Machine

namespace Sys2Proof.Machine

/-! ## Damaged pieces, R64, R68 -/

/-- The record of a piece that is EXCEPTION with reason DAMAGED, R64. -/
def Pallet.damaged (p : Pallet) : Pallet := { p with state := .exception, reason := some .damaged }

/-- The records once the pieces `refs` have been found damaged. -/
def damagedRecords (ps : Tab Pallet) (refs : List Nat) : Tab Pallet := refs.foldl (fun ps ref => ps.modify ref Pallet.damaged) ps

theorem damagedRecords_other {k : Nat} : ∀ {refs : List Nat} {ps : Tab Pallet}, k ∉ refs →
    (damagedRecords ps refs).get k = ps.get k
  | [], _, _ => rfl
  | ref :: rest, ps, hk => by
    obtain ⟨hne, hrest⟩ := not_or.mp (List.mem_cons.not.mp hk)
    exact (damagedRecords_other (refs := rest) hrest).trans (Tab.get_modify_other _ _ hne)

theorem damagedRecords_get {k : Nat} {p : Pallet} : ∀ {refs : List Nat} {ps : Tab Pallet}, refs.Nodup → k ∈ refs →
    ps.get k = some p → (damagedRecords ps refs).get k = some p.damaged
  | ref :: rest, ps, hnodup, hk, hp => by
    obtain ⟨href, hrest⟩ := List.nodup_cons.mp hnodup
    show (damagedRecords (ps.modify ref Pallet.damaged) rest).get k = _
    rcases List.mem_cons.mp hk with rfl | hk
    · rw [damagedRecords_other href, Tab.get_modify_same, hp]
      rfl
    · have hne : k ≠ ref := fun h => href (h ▸ hk)
      exact damagedRecords_get hrest hk ((Tab.get_modify_other _ _ hne).trans hp)

/-- Pieces with one fate that share a move form one group, R68. -/
theorem groupMoves_shared {fate : Fate} {k : MoveKey} (hk : fate.move = some k) {refs : List Nat} (hne : refs ≠ []) :
    groupMoves (refs.map fun ref => (ref, fate)) = [(k, refs)] := by
  induction refs using List.reverseRecOn with
  | nil => exact (hne rfl).elim
  | append_singleton refs ref ih =>
    rw [List.map_append, List.map_singleton, groupMoves_append_moved _ (by exact hk)]
    by_cases hrefs : refs = []
    · subst hrefs
      rfl
    · rw [ih hrefs, addToGroup, if_pos rfl]

section

variable {sc : Scan} {env : Env} {before : Floor} {flag : Nat} (hdamaged : sc.damaged = true)

include hdamaged

theorem placePieces_damaged : ∀ (refs : List Nat) (y : Yard), placePieces env sc refs y =
    (refs.map fun ref => (ref, .exception .damaged), { y with pallets := damagedRecords y.pallets refs })
  | [], _ => rfl
  | ref :: rest, y => by
    have hpiece : y.placePiece env sc ref = (.exception .damaged, y.modPallet ref Pallet.damaged) := by
      simp only [Yard.placePiece, Scan.failure, if_pos hdamaged]
      rfl
    simp only [placePieces, hpiece, placePieces_damaged rest]
    rfl

/-- Damaged pieces are EXCEPTION and share a RELOCATE task at level 0 to location 0, R64, R68. -/
theorem Yard.takeScan_damaged {y : Yard} {refs : List Nat} (hne : refs ≠ []) (hlanes : y.lanes = before.lanes)
    (hroom : y.tasks.size < 1024) (hlive : ∀ ref ∈ refs, ∃ p, y.pallets.get ref = some p) (hnodup : refs.Nodup) :
    y.takeScan env sc flag refs before =
      .done (le8 flag ++ le8 refs.length ++ refs.flatMap fun ref =>
          le32 (y.labelOf ref) ++ ([4#8, 0#8, 0#8, 0#8, 0#8, 5#8] ++ le16 y.allocId))
        { y with
          pallets := damagedRecords y.pallets refs
          tasks := y.tasks.put y.allocId (newTask .relocate 0 (.door sc.door) (.floor 0) refs refs.length none)
          nextId := idAfter y.allocId
          queues := y.queues.set [] 0 (y.queue 0 ++ [y.allocId])
          tips := y.scannedTips sc.door refs.length } := by
  have hnodep : (refs.map fun ref => (ref, Fate.exception .damaged)).filterMap (fun x => x.2.dep) = [] := by
    simp [Fate.dep]
  have heval {z : Yard} : ((refs.map fun ref => (ref, Fate.exception .damaged)).filterMap fun x => x.2.dep).foldl
      (fun z d => z.evaluate env d) z = z := by rw [hnodep]; rfl
  have htaken := Yard.takeScan_moved (flag := flag) (placePieces_damaged (env := env) hdamaged refs y)
    (groupMoves_shared rfl hne) hroom (heval.trans (Yard.addTask_countScans ..)) (Yard.watch_lanes hlanes)
  rw [htaken, List.length_map, List.flatMap_map]
  refine congrArg (fun bytes => Answer.done (le8 flag ++ le8 refs.length ++ bytes) _) ?_
  refine List.flatMap_congr fun ref href => ?_
  obtain ⟨p, hp⟩ := hlive ref href
  have hafter := Floor.outcomeBytes_damaged (id := y.allocId)
    (f := { y.toFloor with pallets := damagedRecords y.pallets refs }) (damagedRecords_get hnodup href hp)
  have hsame : p.damaged.label = y.labelOf ref := by rw [Floor.labelOf, Floor.pallet_of_get hp]; rfl
  exact hafter.trans (by rw [hsame])

end

/-! ## New records, R55 -/

theorem le_lowestFree {α : Type} : ∀ (cells : List (Nat × α)) (n : Nat), n ≤ lowestFree n cells
  | [], _ => le_rfl
  | (j, v) :: rest, n => by
    rw [lowestFree]
    split
    · exact (Nat.le_succ n).trans (le_lowestFree rest (n + 1))
    · exact le_rfl

/-- The lowest free place of a canonical table is free. -/
theorem cellGet_lowestFree {α : Type} : ∀ {cells : List (Nat × α)} {n : Nat}, cellsRise cells = true →
    (∀ c ∈ cells, n ≤ c.1) → cellGet cells (lowestFree n cells) = none
  | [], _, _, _ => rfl
  | (j, v) :: rest, n, hrise, hn => by
    have hrest : risesAbove j rest := (cellsRise_cons j v rest).mp hrise
    have hj : n ≤ j := hn _ List.mem_cons_self
    by_cases hjn : j = n
    · have hlow := le_lowestFree rest (n + 1)
      rw [lowestFree, if_pos hjn, cellGet, if_neg (by omega)]
      exact cellGet_lowestFree (cellsRise_of_above hrest) fun c hc => hjn ▸ lt_of_mem_risesAbove hrest hc
    · rw [lowestFree, if_neg hjn, cellGet, if_neg hjn]
      exact cellGet_of_above hj hrest

theorem Tab.get_lowestFree {α : Type} {t : Tab α} (h : t.wf = true) : t.get (lowestFree 0 t.cells) = none :=
  cellGet_lowestFree h fun _ _ => Nat.zero_le _

/-- What the records `ps` are once the new `labels` have theirs in the places `refs`, which were free, R55, R62. -/
structure NewRecords (env : Env) (sc : Scan) (cons : Option Nat) (labels : List Nat) (y : Yard) (refs : List Nat)
    (ps : Tab Pallet) : Prop where
  length : refs.length = labels.length
  nodup : refs.Nodup
  free : ∀ ref ∈ refs, y.pallets.get ref = none
  other : ∀ k, k ∉ refs → ps.get k = y.pallets.get k
  record : ∀ (k ref label : Nat), refs[k]? = some ref → labels[k]? = some label →
    ps.get ref = some (sc.record env y label cons)

/-- The records carry the labels, in order. -/
theorem NewRecords.labels_eq {env : Env} {sc : Scan} {cons : Option Nat} {labels refs : List Nat} {y : Yard} {ps : Tab Pallet}
    (h : NewRecords env sc cons labels y refs ps) : refs.map ({ y with pallets := ps } : Yard).labelOf = labels := by
  refine List.ext_getElem? fun k => ?_
  rw [List.getElem?_map]
  cases href : refs[k]? with
  | none => rw [List.getElem?_eq_none (h.length ▸ List.getElem?_eq_none_iff.mp href), Option.map_none]
  | some ref =>
    obtain ⟨hk, -⟩ := List.getElem?_eq_some_iff.mp href
    have hlabel := List.getElem?_eq_getElem (h.length ▸ hk)
    rw [hlabel, Option.map_some, Floor.labelOf, Floor.pallet_of_get (h.record k ref _ href hlabel)]
    rfl

theorem createRecords_new {env : Env} {sc : Scan} {cons : Option Nat} : ∀ (labels : List Nat) {y : Yard},
    y.pallets.wf = true → ∃ refs ps, createRecords env sc cons labels y = (refs, { y with pallets := ps }) ∧
      NewRecords env sc cons labels y refs ps
  | [], y, _ => ⟨[], y.pallets, rfl, rfl, List.nodup_nil, by simp, fun _ _ => rfl, by simp⟩
  | label :: labels, y, hwf => by
    have hfree := Tab.get_lowestFree hwf
    obtain ⟨refs, ps, hmade, hrest⟩ := createRecords_new (env := env) (sc := sc) (cons := cons) labels
      (y := y.setPallet (lowestFree 0 y.pallets.cells) (sc.record env y label cons)) (Tab.wf_put _ _ _ hwf)
    refine ⟨lowestFree 0 y.pallets.cells :: refs, ps, by rw [createRecords, hmade]; rfl, ?_⟩
    generalize lowestFree 0 y.pallets.cells = ref at hfree hrest
    have hnot : ref ∉ refs := fun h => by
      cases (Tab.get_put_same ..).symm.trans (hrest.free ref h)
    have hsame (k : Nat) (hk : k ≠ ref) : (y.setPallet ref (sc.record env y label cons)).pallets.get k = y.pallets.get k :=
      Tab.get_put_other _ _ hk
    refine ⟨congrArg (· + 1) hrest.length, List.nodup_cons.mpr ⟨hnot, hrest.nodup⟩, fun k hk => ?_, fun k hk => ?_,
      fun k other lab hk hlab => ?_⟩
    · rcases List.mem_cons.mp hk with rfl | hk
      · exact hfree
      · exact (hsame k fun h => hnot (h ▸ hk)).symm.trans (hrest.free k hk)
    · obtain ⟨hne, hk⟩ := not_or.mp (List.mem_cons.not.mp hk)
      exact (hrest.other k hk).trans (hsame k hne)
    · cases k with
      | zero =>
        cases Option.some.inj hk
        cases Option.some.inj hlab
        exact (hrest.other ref hnot).trans (Tab.get_put_same ..)
      | succ k => exact hrest.record k other lab hk hlab

end Sys2Proof.Machine

namespace Sys2Proof.Machine

/-! ## Sound pieces, R64 to R67 -/

/-- The departures that a pallet may try begin with the first of its route list, R65. -/
theorem Env.routeFor_first {env : Env} {p : Pallet} {d : Nat} {rest : List Nat}
    (h : env.plan.routes.get p.dest = some (d :: rest)) : ∃ rest', env.routeFor p none = d :: rest' := by
  simp only [Env.routeFor, h, Option.getD_some]
  split <;> simp

section

variable {sc : Scan} {env : Env} {y : Yard} {ref d pos l : Nat} {p : Pallet} {e : DepartureEntry}

/-- A sound piece with a departure of the plan on its route list passes validation, R64. -/
theorem Scan.failure_none (hsound : sc.damaged = false) (hw1 : 1 ≤ sc.weight) (hw2 : sc.weight ≤ 1500) (hh1 : 10 ≤ sc.height)
    (hh2 : sc.height ≤ 300) (hd0 : sc.dest ≠ 0) (hd255 : sc.dest ≠ 255) (hdest : p.dest = sc.dest)
    (hroute : ∃ d ∈ env.routeFor p none, env.plan.departures.has d = true) : sc.failure env p = none := by
  obtain ⟨d, hd, hhas⟩ := hroute
  have hlist : ((env.plan.routes.get sc.dest).getD []).isEmpty = false := by
    rw [← hdest]
    by_contra hempty
    have hnil : (env.plan.routes.get p.dest).getD [] = [] := by simpa using hempty
    simp [Env.routeFor, hnil] at hd
  have hsome : ((env.routeFor p none).all fun d => (env.depEntry d).isNone) = false := by
    rw [List.all_eq_false]
    exact ⟨d, hd, by simpa [Env.depEntry, Tab.has, Option.isSome_iff_ne_none] using hhas⟩
  have hw : ¬(sc.weight = 0 ∨ 1500 < sc.weight) := by omega
  have hh : ¬(sc.height < 10 ∨ 300 < sc.height) := by omega
  simp [Scan.failure, hsound, hw, hh, hd0, hd255, hlist, hsome]

/-- A departure before its door that serves the destination is a candidate with a lane, R65, R66. -/
theorem Floor.candidate_lane {f : Floor} {n dest : Nat} (he : env.depEntry d = some e)
    (hst : (f.departure d).state = .planned) (hdest : dest = e.drop1 ∨ e.drop2 = some dest)
    (hlane : f.chooseLane env e dest = some l) : f.candidate env (.door n) d dest = some (some l) := by
  have hserves : (dest == e.drop1 || e.drop2 == some dest) = true := by simpa using hdest
  simp [Floor.candidate, he, hst, DepState.takesIntake, hserves, laneNeeded, DepState.beforeDoor, hlane]

variable (hp : y.pallets.get ref = some p) (hfail : sc.failure env p = none)

include hp hfail

/-- A piece that no departure takes is HELD, R67. -/
theorem Yard.placePiece_held
    (hnone : ∀ d ∈ env.routeFor p none, y.candidate env (.door sc.door) d p.dest = none ∨ y.findPlace env d ref = none) :
    y.placePiece env sc ref = (.held, { y with pallets := y.pallets.put ref { p with state := .held } }) := by
  have hpallet := Floor.pallet_of_get hp
  have hroute : y.route env (.door sc.door) ref none = none := by
    rw [Yard.route, hpallet]
    exact Yard.routeOver_none (congrArg Pallet.dest hpallet) hnone
  simp only [Yard.placePiece, hpallet, hfail, hroute, Yard.modPallet, Tab.modify_of_get _ hp]

variable {rest : List Nat} (hroute : env.plan.routes.get p.dest = some (d :: rest))
  (hplace : y.findPlace env d ref = some pos)

include hroute hplace

/-- A piece that the first departure of its route list takes with a lane, R66. -/
theorem Yard.placePiece_lane (hc : y.candidate env (.door sc.door) d p.dest = some (some l)) :
    y.placePiece env sc ref = (.lane d l, (y.place env d ref pos).laneExpect l) := by
  have hpallet := Floor.pallet_of_get hp
  obtain ⟨rest', hlist⟩ := Env.routeFor_first hroute
  have hrouted : y.route env (.door sc.door) ref none = some { dep := d, lane := some l, yard := y.place env d ref pos } := by
    rw [Yard.route, hpallet, hlist]
    exact Yard.routeOver_first (congrArg Pallet.dest hpallet) hc hplace
  simp only [Yard.placePiece, hpallet, hfail, hrouted]

/-- A piece that it takes for loading from the door, R67. -/
theorem Yard.placePiece_door (hc : y.candidate env (.door sc.door) d p.dest = some none) :
    y.placePiece env sc ref = (.door d, y.place env d ref pos) := by
  have hpallet := Floor.pallet_of_get hp
  obtain ⟨rest', hlist⟩ := Env.routeFor_first hroute
  have hrouted : y.route env (.door sc.door) ref none = some { dep := d, lane := none, yard := y.place env d ref pos } := by
    rw [Yard.route, hpallet, hlist]
    exact Yard.routeOver_first (congrArg Pallet.dest hpallet) hc hplace
  simp only [Yard.placePiece, hpallet, hfail, hrouted]

end

/-! ## The watch after one lane has filled -/

/-- Without a high limit an occupancy that does not fall crosses nothing, R86. -/
theorem Lane.crossed_rise {r : Lane} {b a : Nat} (hhigh : r.high = none) (h : b ≤ a) : r.crossed b a = none := by
  have down (limit : Nat) : ¬(limit < b ∧ a ≤ limit) := by omega
  cases hlow : r.low <;> simp only [Lane.crossed, hhigh, hlow, down, if_false]

/-- The watch finds nothing where one lane without high limit has gained pallets, R86. -/
theorem Yard.watch_lane_joined {z : Yard} {f : Floor} {env : Env} {l : Nat} {r : Lane}
    (hlanes : z.lanes = f.lanes.set Lane.reset l r) (hhigh : r.high = none) (hocc : f.occupancy l ≤ r.occupancy) :
    z.watch env f = z := by
  refine foldl_same fun k _ => ?_
  have hcross : (z.lane k).crossed (f.occupancy k) (z.lane k).occupancy = none := by
    by_cases hk : k = l
    · subst hk
      rw [show z.lane k = r by simp [Floor.lane, hlanes]]
      exact Lane.crossed_rise hhigh hocc
    · rw [show z.lane k = f.lane k by simp [Floor.lane, hlanes, Tab.at_set_other, hk]]
      exact Lane.crossed_same ..
  simp only [Yard.watchLane, show z.occupancy k = (z.lane k).occupancy from rfl, hcross]

/-! ## One entry on an empty deck map -/

theorem placeSlots_replicate : ∀ m pos : Nat, placeSlots pos (List.replicate m ([] : List Entry)) = []
  | 0, _ => rfl
  | m + 1, pos => by simp [List.replicate_succ, placeSlots, tierSlots, placeSlots_replicate m]

theorem placeSlots_modify_replicate (x : Entry) : ∀ {m k : Nat} (pos : Nat), k < m →
    placeSlots pos ((List.replicate m ([] : List Entry)).modify k (· ++ [x])) = [{ pos := pos + k, tier := 1, entry := x }]
  | m + 1, 0, pos, _ => by simp [List.replicate_succ, placeSlots, tierSlots, placeSlots_replicate]
  | m + 1, k + 1, pos, hk => by
    have hrest := placeSlots_modify_replicate x (pos + 1) (Nat.lt_of_succ_lt_succ hk)
    simp [List.replicate_succ, placeSlots, tierSlots, hrest, Nat.add_assoc, Nat.add_comm 1 k]

/-- The entries of a map with one, R9. -/
theorem Deck.slots_push_blank {n pos w : Nat} {pr : Profile} {x : Entry} (h1 : 1 ≤ pos) (hn : pos ≤ n) :
    ((Deck.blank n).push pr pos x w).slots = [{ pos := pos, tier := 1, entry := x }] := by
  have hslots := placeSlots_modify_replicate x (m := n) (k := pos - 1) 1 (by omega)
  rwa [show 1 + (pos - 1) = pos by omega] at hslots

/-- The status of its one entry changes, R7. -/
theorem Deck.shift_push_blank {n pos w ref : Nat} {pr : Profile} {src dst : LoadStatus} :
    ((Deck.blank n).push pr pos { ref := ref, status := src } w).shift ref src dst =
      (Deck.blank n).push pr pos { ref := ref, status := dst } w := by
  simp only [Deck.shift, Deck.push, Deck.blank, Deck.mk.injEq, and_true]
  refine List.ext_getElem? fun i => ?_
  by_cases hi : pos - 1 = i
  · simp [List.getElem?_replicate, hi]
    split <;> simp [Entry.shift]
  · simp [List.getElem?_replicate, hi]

theorem Deck.stackAt_blank (n pos : Nat) : (Deck.blank n).stackAt pos = [] := by
  simp only [Deck.stackAt, Deck.blank, List.getD_eq_getElem?_getD, List.getElem?_replicate]
  split <;> rfl

end Sys2Proof.Machine

namespace Sys2Proof.Machine

/-! ## PALLET IN of one sound piece, R65 to R69 -/

/-- The reply to a scan of one piece, R69. -/
theorem scanReply_one {flag : Nat} {x : Nat × Fate} {g : Nat × Fate → List Byte} {label : Nat} {rest : List Byte}
    (h : g x = le32 label ++ rest) :
    le8 flag ++ le8 [x].length ++ [x].flatMap g = le8 flag ++ [1#8] ++ le32 label ++ rest := by
  rw [List.flatMap_singleton, h, List.append_assoc _ (le32 label)]
  rfl

/-- The floor on which the LOADING departure `d`, its deck map empty, has taken the piece that stands at its door, R67. -/
def Yard.takenAtDoor (y : Yard) (sc : Scan) (d ref pos n : Nat) (pr : Profile) (p : Pallet) (r : Departure) : Yard :=
  { y with
    pallets := y.pallets.put ref { p with dep := some d, slot := some (pos, 1) }
    departures := y.departures.put d r
    decks := y.decks.put d ((Deck.blank n).push pr pos { ref := ref, status := .planned } p.weight)
    tips := y.scannedTips sc.door 1 }

/-- A DIRECT task is made for a pallet that stands at a door, R36. -/
theorem Floor.loadTask_door {f : Floor} {d m : Nat} {x : Slot} {p : Pallet} (hp : f.pallets.get x.entry.ref = some p)
    (hloc : p.loc = some (.door m)) :
    f.loadTask d x =
      some (newTask .direct (f.departure d).loadLevel (.door m) (.trailer d x.pos x.tier) [x.entry.ref] 1 (some d)) := by
  simp [Floor.loadTask, Floor.pallet_of_get hp, hloc]

/-- A pallet at a door with no move of its own is present, R34. -/
theorem Floor.present_atDoor {f : Floor} {ref m : Nat} {p : Pallet} (hp : f.pallets.get ref = some p)
    (hst : p.state = .atDoor) (hloc : p.loc = some (.door m)) (hcarrier : f.carrier ref = none)
    (hbacklog : f.backlogOf ref = none) : f.present ref = true := by
  simp [Floor.present, Floor.pallet_of_get hp, hst, hloc, hcarrier, hbacklog]

/-- Its entry, the only one, is RELEASED with a DIRECT task, R35, R36. -/
theorem Yard.evaluate_takenAtDoor {y : Yard} {env : Env} {sc : Scan} {d ref pos n : Nat} {pr : Profile} {p : Pallet}
    {r : Departure} {e : DepartureEntry} (hmute : env.mute = []) (he : env.depEntry d = some e) (hst : r.state = .loading)
    (hhold : r.hold = false) (h1 : 1 ≤ pos) (hn : pos ≤ n) (hbatch : 1 ≤ e.batch) (hat : p.state = .atDoor)
    (hloc : p.loc = some (.door sc.door)) (hcarrier : y.carrier ref = none) (hbacklog : y.backlogOf ref = none)
    (hroom : y.tasks.size < 1024) :
    (y.takenAtDoor sc d ref pos n pr p r).evaluate env d =
      { y with
        pallets := y.pallets.put ref { p with dep := some d, slot := some (pos, 1) }
        departures := y.departures.put d r
        decks := y.decks.put d ((Deck.blank n).push pr pos { ref := ref, status := .released } p.weight)
        tasks := y.tasks.put y.allocId
          (newTask .direct r.loadLevel (.door sc.door) (.trailer d pos 1) [ref] 1 (some d))
        nextId := idAfter y.allocId
        queues := y.queues.set [] r.loadLevel (y.queue r.loadLevel ++ [y.allocId])
        tips := y.scannedTips sc.door 1 } := by
  have hrecord : (y.takenAtDoor sc d ref pos n pr p r).departure d = r := Tab.at_put_same ..
  have hdeck : (y.takenAtDoor sc d ref pos n pr p r).deck d =
      (Deck.blank n).push pr pos { ref := ref, status := .planned } p.weight := Tab.at_put_same ..
  have hslots := Deck.slots_push_blank (w := p.weight) (pr := pr) (x := { ref := ref, status := .planned }) h1 hn
  have hpallet : (y.takenAtDoor sc d ref pos n pr p r).pallets.get ref =
      some { p with dep := some d, slot := some (pos, 1) } := Tab.get_put_same ..
  have htask := Floor.loadTask_door (f := (y.takenAtDoor sc d ref pos n pr p r).toFloor) (d := d)
    (x := { pos := pos, tier := 1, entry := { ref := ref, status := .planned } }) hpallet hloc
  rw [hrecord] at htask
  rw [Yard.evaluate_releasesHead (by simp [hmute]) he (by rw [hrecord, hst]) (by rw [hrecord, hhold]) (by rw [hdeck, hslots]) rfl
    (Floor.present_atDoor (p := { p with dep := some d, slot := some (pos, 1) }) hpallet hat hloc hcarrier hbacklog)
    (by rw [hdeck, Deck.countOf, hslots]; rfl) hbatch (.inr rfl) htask
    (decide_eq_false (Nat.not_le.mpr hroom)), Yard.released, hdeck, Deck.shift_push_blank]
  simp only [Yard.takenAtDoor, Tab.put_put]
  rfl

section

variable {sc : Scan} {env : Env} {y : Yard} {before : Floor} {ref flag : Nat} {p : Pallet}
  (hp : y.pallets.get ref = some p) (hfail : sc.failure env p = none) (hroom : y.tasks.size < 1024)
  (hlanes : y.lanes = before.lanes)

include hp hfail hroom hlanes

/-- Where no departure takes the piece, R67. -/
theorem Yard.takeScan_held
    (hnone : ∀ d ∈ env.routeFor p none, y.candidate env (.door sc.door) d p.dest = none ∨ y.findPlace env d ref = none) :
    y.takeScan env sc flag [ref] before =
      .done (le8 flag ++ [1#8] ++ le32 p.label ++ ([3#8, 0#8, 0#8, 0#8, 0#8, 0#8] ++ le16 y.allocId))
        { y with
          pallets := y.pallets.put ref { p with state := .held }
          tasks := y.tasks.put y.allocId (newTask .relocate 0 (.door sc.door) (.floor 1) [ref] 1 none)
          nextId := idAfter y.allocId
          queues := y.queues.set [] 0 (y.queue 0 ++ [y.allocId])
          tips := y.scannedTips sc.door 1 } := by
  have htaken := Yard.takeScan_moved (flag := flag) (placePieces_one (Yard.placePiece_held hp hfail hnone)) rfl hroom
    (Yard.addTask_countScans ..) (Yard.watch_lanes hlanes)
  have hbytes := Floor.outcomeBytes_held (id := y.allocId)
    (f := { y.toFloor with pallets := y.pallets.put ref { p with state := .held } }) (Tab.get_put_same ..)
  exact htaken.trans (congrArg (Answer.done · _) (scanReply_one hbytes))

variable {d pos l : Nat} {rest : List Nat} {e : DepartureEntry} {pr : Profile} {r : Departure}
  (hroute : env.plan.routes.get p.dest = some (d :: rest)) (he : env.depEntry d = some e) (hpr : env.profileOf d = some pr)
  (hr : y.departures.get d = some r) (hdest : p.dest = e.drop1 ∨ e.drop2 = some p.dest)
  (hplace : y.findPlace env d ref = some pos)

include hroute he hpr hr hdest hplace

/-- Where a PLANNED departure takes it with a lane, R66. -/
theorem Yard.takeScan_lane (hst : r.state = .planned) (hlane : y.chooseLane env e p.dest = some l)
    (hhigh : (y.lane l).high = none) {tier : Nat} (htier : tier = ((y.deck d).stackAt pos).length + 1) :
    y.takeScan env sc flag [ref] before =
      .done (le8 flag ++ [1#8] ++ le32 p.label ++
          ([1#8] ++ le8 d ++ le8 pos ++ le8 tier ++ le8 l ++ [0#8] ++ le16 y.allocId))
        { y with
          pallets := y.pallets.put ref { p with dep := some d, slot := some (pos, tier) }
          departures := y.departures.put d r
          decks := y.decks.put d ((y.deck d).push pr pos { ref := ref, status := .planned } p.weight)
          lanes := y.lanes.set Lane.reset l { y.lane l with incoming := (y.lane l).incoming + 1 }
          tasks := y.tasks.put y.allocId (newTask .tip sc.cls.tipLevel (.door sc.door) (.floor l) [ref] 1 none)
          nextId := idAfter y.allocId
          queues := y.queues.set [] sc.cls.tipLevel (y.queue sc.cls.tipLevel ++ [y.allocId])
          tips := y.scannedTips sc.door 1 } := by
  have hplanned : (y.departure d).state = .planned := (congrArg Departure.state (Floor.departure_of_get hr)).trans hst
  have hpiece := Yard.placePiece_lane hp hfail hroute hplace (Floor.candidate_lane he hplanned hdest hlane)
  rw [Yard.place_unloaded hpr hp hr (by simp [hst]), ← htier] at hpiece
  have hocc : before.occupancy l ≤ { y.lane l with incoming := (y.lane l).incoming + 1 }.occupancy := by
    simp only [Floor.occupancy, Floor.lane, ← hlanes, Lane.occupancy]
    omega
  have hstate {w : Yard} (hw : w.departures = y.departures.put d r) : (w.departure d).state = .planned := by
    rw [Floor.departure, hw, Tab.at_put_same, hst]
  have hquiet {w : Yard} (hw : w.departures = y.departures.put d r) := Yard.evaluate_of_state (env := env) (y := w) (d := d)
    (by simp [hstate hw]) (by simp [hstate hw])
  have htaken := Yard.takeScan_moved (flag := flag) (before := before) (placePieces_one hpiece) rfl hroom (hquiet rfl)
    (Yard.watch_lane_joined (r := { y.lane l with incoming := (y.lane l).incoming + 1 }) (by rw [← hlanes]; rfl) hhigh hocc)
  have hbytes := Floor.outcomeBytes_lane (id := y.allocId) (d := d) (l := l) (f := { y.toFloor with
    pallets := y.pallets.put ref { p with dep := some d, slot := some (pos, tier) } }) (Tab.get_put_same ..) rfl
  exact htaken.trans (congrArg (Answer.done · _) (scanReply_one hbytes))

/-- Where a LOADING departure with an empty deck takes it, its entry is RELEASED at once with a DIRECT task, R35, R36, R67. -/
theorem Yard.takeScan_direct {n : Nat} (hst : r.state = .loading) (hhold : r.hold = false) (hblank : y.deck d = Deck.blank n)
    (hn : pos ≤ n) (hbatch : 1 ≤ e.batch) (hmute : env.mute = []) (hat : p.state = .atDoor)
    (hloc : p.loc = some (.door sc.door)) (hcarrier : y.carrier ref = none) (hbacklog : y.backlogOf ref = none) :
    y.takeScan env sc flag [ref] before =
      .done (le8 flag ++ [1#8] ++ le32 p.label ++ ([2#8] ++ le8 d ++ le8 pos ++ [1#8, 0#8, 0#8, 0#8, 0#8]))
        { y with
          pallets := y.pallets.put ref { p with dep := some d, slot := some (pos, 1) }
          departures := y.departures.put d r
          decks := y.decks.put d ((Deck.blank n).push pr pos { ref := ref, status := .released } p.weight)
          tasks := y.tasks.put y.allocId
            (newTask .direct r.loadLevel (.door sc.door) (.trailer d pos 1) [ref] 1 (some d))
          nextId := idAfter y.allocId
          queues := y.queues.set [] r.loadLevel (y.queue r.loadLevel ++ [y.allocId])
          tips := y.scannedTips sc.door 1 } := by
  have hloading : (y.departure d).state = .loading := (congrArg Departure.state (Floor.departure_of_get hr)).trans hst
  have hpos : 1 ≤ pos := by
    obtain ⟨-, -, -, -, -, -, -, -, -, -, -, hline, -⟩ := Floor.findPlace_legal hplace
    unfold rowOf at hline
    omega
  have hpiece := Yard.placePiece_door hp hfail hroute hplace (Floor.candidate_noLane he (by rw [hloading]; rfl) hdest
    (by rw [hloading]; rfl))
  rw [Yard.place_unloaded hpr hp hr (by simp [hst]), hblank, Deck.stackAt_blank] at hpiece
  have htaken := Yard.takeScan_unmoved (flag := flag) (before := before) (placePieces_one hpiece) rfl hroom
    (Yard.evaluate_takenAtDoor hmute he hst hhold hpos hn hbatch hat hloc hcarrier hbacklog hroom) (Yard.watch_lanes hlanes)
  have hbytes := Floor.outcomeBytes_door (d := d) (f := { y.toFloor with
    pallets := y.pallets.put ref { p with dep := some d, slot := some (pos, 1) } }) (Tab.get_put_same ..) rfl
  exact htaken.trans (congrArg (Answer.done · _) (scanReply_one hbytes))

end

end Sys2Proof.Machine

namespace Sys2Proof.Machine

/-- What is listed may be written again. -/
theorem Tab.get_put_self {α : Type} {t : Tab α} {k : Nat} {v : α} (h : t.get k = some v) (i : Nat) :
    (t.put k v).get i = t.get i := by
  by_cases hi : i = k
  · rw [hi, Tab.get_put_same, h]
  · exact Tab.get_put_other _ _ hi

/-- Settles O27, by the clauses: one damaged piece, one sound piece, several damaged pieces, and the groups of a request. -/
theorem damagedPieceGoesToTheExceptionBay : Obligations.DamagedPieceGoesToTheExceptionBay := by
  refine ⟨fun s u tag body sc hu hlen hzero hscan hone hdamaged hopen htip hnew hpallets hroom ref href hfree => ?single,
    fun s u tag body sc ref flag cons p y tips hu hlen hzero hscan hone hsound hopen htip hroom hw1 hw2 hh1 hh2 hd0 hd255 hplace
      hp hy htips => ?sound,
    fun s u tag body sc hu hlen hzero hscan hmany hdamaged hopen htip hwf hnew hpallets hroom => ?several, groupMoves_spec⟩
  all_goals have hread : sc.Read body u.toRun.env u.toRun.yard.toFloor := ⟨hlen, hzero, hscan, hopen, htip⟩
  case single =>
    have hrecord := Tab.get_put_same u.floor.pallets ref (sc.record u.toRun.env u.toRun.yard sc.first none)
    have htaken := Yard.takeScan_damaged (env := u.toRun.env) (flag := 0) hdamaged (List.cons_ne_nil ref [])
      (y := u.toRun.yard.setPallet ref (sc.record u.toRun.env u.toRun.yard sc.first none)) (before := u.toRun.yard.toFloor) rfl
      hroom (fun k hk => ⟨_, (congrArg _ (List.mem_singleton.mp hk)).trans hrecord⟩) (List.nodup_singleton ref)
    rw [List.flatMap_singleton, Floor.labelOf, Floor.pallet_of_get (by exact hrecord), ← List.append_assoc,
      ← List.append_assoc] at htaken
    have hanswer := (answerPalletIn_one hread hone (.inl ⟨hnew, hpallets, href, hfree, rfl, rfl⟩)).trans htaken
    exact ⟨_, congrArg Host.Outcome.next (takeRequest_asYard hu hanswer),
      damagedRecords_get (List.nodup_singleton ref) List.mem_cons_self hrecord,
      fun k hk => (damagedRecords_other (by simpa using hk)).trans (Tab.get_put_other _ _ hk), rfl, Tab.at_set_same ..,
      fun k hk => Tab.at_set_other _ _ _ hk, Tab.at_set_same .., fun k hk => Tab.at_set_other _ _ _ hk, rfl, rfl, rfl, rfl, rfl,
      rfl, rfl, rfl, rfl⟩
  case sound =>
    subst hp hy htips
    have hrecord := Tab.get_put_same u.floor.pallets ref (sc.record u.toRun.env u.toRun.yard sc.first cons)
    have hanswer := answerPalletIn_one hread hone hplace
    have hvalid := Scan.failure_none (env := u.toRun.env) (p := sc.record u.toRun.env u.toRun.yard sc.first cons) hsound hw1
      hw2 hh1 hh2 hd0 hd255 rfl
    have hother (q : Pallet) (k : Nat) (hk : k ≠ ref) : ((u.floor.pallets.put ref (sc.record u.toRun.env u.toRun.yard sc.first
        cons)).put ref q).get k = u.floor.pallets.get k := (Tab.get_put_other _ _ hk).trans (Tab.get_put_other _ _ hk)
    refine ⟨fun d rest e pr l pos tier hroute he hpr hst hdest hlane hhigh hfind htier => ?lane,
      fun d rest e pr pos n level hroute he hpr hst hhold hdest hblank hn hbatch hcarrier hbacklog hfind hlevel => ?direct,
      fun hlist hnone => ?held⟩
    case held =>
      have htaken := Yard.takeScan_held (flag := flag) (before := u.toRun.yard.toFloor) (y := u.toRun.yard.setPallet ref
        (sc.record u.toRun.env u.toRun.yard sc.first cons)) hrecord (hvalid hlist) hroom rfl hnone
      rw [← List.append_assoc] at htaken
      exact ⟨_, congrArg Host.Outcome.next (takeRequest_asYard hu (hanswer.trans htaken)), Tab.get_put_same .., hother _, rfl⟩
    all_goals
      have hvalid := hvalid (by
        obtain ⟨rest', hlist⟩ := Env.routeFor_first (env := u.toRun.env)
          (p := sc.record u.toRun.env u.toRun.yard sc.first cons) hroute
        exact ⟨d, hlist ▸ List.mem_cons_self, congrArg Option.isSome he⟩)
      have hget := Floor.get_departure (f := u.floor) (d := d) (by simp [hst])
    case lane =>
      have htaken := Yard.takeScan_lane (flag := flag) (before := u.toRun.yard.toFloor) (y := u.toRun.yard.setPallet ref
        (sc.record u.toRun.env u.toRun.yard sc.first cons)) hrecord hvalid hroom rfl hroute he (Env.profileOf_of_get he hpr) hget
        hdest hfind hst hlane hhigh htier
      simp only [← List.append_assoc] at htaken
      exact ⟨_, congrArg Host.Outcome.next (takeRequest_asYard hu (hanswer.trans htaken)), Tab.get_put_same .., hother _,
        Tab.get_put_self hget, rfl⟩
    case direct =>
      subst hlevel
      have htaken := Yard.takeScan_direct (flag := flag) (before := u.toRun.yard.toFloor) (y := u.toRun.yard.setPallet ref
        (sc.record u.toRun.env u.toRun.yard sc.first cons)) hrecord hvalid hroom rfl hroute he (Env.profileOf_of_get he hpr) hget
        hdest hfind hst hhold hblank hn hbatch rfl rfl rfl hcarrier hbacklog
      simp only [← List.append_assoc] at htaken
      exact ⟨_, congrArg Host.Outcome.next (takeRequest_asYard hu (hanswer.trans htaken)), Tab.get_put_same .., hother _,
        Tab.get_put_self hget, (Tab.at_put_same ..).trans (by rw [hblank]; rfl), fun k hk => Tab.at_put_other _ _ _ hk, rfl⟩
  case several =>
    obtain ⟨refs, ps, hmade, hrecords⟩ := createRecords_new (env := u.toRun.env) (sc := sc) (cons := some sc.first) sc.labels
      (y := u.toRun.yard) hwf
    have hlength : refs.length = sc.pieces := hrecords.length.trans List.length_range'
    have hrecord (k ref : Nat) (hk : refs[k]? = some ref) :
        ps.get ref = some (sc.record u.toRun.env u.toRun.yard (sc.first + k) (some sc.first)) := by
      refine hrecords.record k ref _ hk ?_
      have hlt : k < sc.pieces := hlength ▸ (List.getElem?_eq_some_iff.mp hk).1
      rw [Scan.labels, List.getElem?_range' hlt, one_mul]
    have hlive (ref : Nat) (href : ref ∈ refs) : ∃ p, ps.get ref = some p := by
      obtain ⟨k, hk⟩ := List.mem_iff_getElem?.mp href
      exact ⟨_, hrecord k ref hk⟩
    have htaken := Yard.takeScan_damaged (env := u.toRun.env) (flag := 0) (before := u.toRun.yard.toFloor) hdamaged
      (y := { u.toRun.yard with pallets := ps }) (List.ne_nil_of_length_pos (by omega)) rfl hroom hlive hrecords.nodup
    have hbytes : (refs.flatMap fun ref => le32 (({ u.toRun.yard with pallets := ps } : Yard).labelOf ref) ++
        ([4#8, 0#8, 0#8, 0#8, 0#8, 5#8] ++ le16 u.floor.allocId)) = (List.range sc.pieces).flatMap fun k =>
          le32 (sc.first + k) ++ [4#8, 0#8, 0#8, 0#8, 0#8, 5#8] ++ le16 u.floor.allocId := by
      have hlabels := hrecords.labels_eq
      rw [Scan.labels, List.range'_eq_map_range] at hlabels
      have hmap := congrArg (List.flatMap fun label => le32 label ++ ([4#8, 0#8, 0#8, 0#8, 0#8, 5#8] ++ le16 u.floor.allocId))
        hlabels
      simpa only [List.flatMap_map, List.append_assoc] using hmap
    have hanswer := (answerPalletIn_several hread hmany hnew hpallets hmade).trans (htaken.trans (congrArg (fun bytes =>
      Answer.done (le8 0 ++ le8 refs.length ++ bytes) _) hbytes))
    rw [hlength] at hanswer
    exact ⟨_, refs, congrArg Host.Outcome.next (takeRequest_asYard hu hanswer), hlength, hrecords.free, fun k ref hk =>
      damagedRecords_get hrecords.nodup (List.mem_of_getElem? hk) (hrecord k ref hk), fun k hk =>
      (damagedRecords_other hk).trans (hrecords.other k hk), rfl⟩

end Sys2Proof.Machine

namespace Sys2Proof.Machine

/-! ## The next id is free, R93 -/

/-- Where the search from id `n` on comes after `k + 1` moves, R93. -/
theorem iterate_idAfter (n k : Nat) (hk : k < 65535) :
    idAfter^[k + 1] n = if min n 65535 + (k + 1) ≤ 65535 then n + (k + 1) else min n 65535 + (k + 1) - 65535 := by
  induction k with
  | zero => rw [Function.iterate_one, idAfter, Config.maxTaskId]; split <;> split <;> omega
  | succ k ih =>
    rw [Function.iterate_succ_apply', ih (by omega), idAfter, Config.maxTaskId]
    split <;> split <;> split <;> omega

/-- The search passes 65535 ids before it meets one again. -/
theorem iterate_idAfter_ne (n : Nat) {i j : Nat} (hij : i < j) (hj : j < 65535) : idAfter^[i] n ≠ idAfter^[j] n := by
  obtain ⟨j, rfl⟩ : ∃ k, j = k + 1 := ⟨j - 1, by omega⟩
  rw [iterate_idAfter n j (by omega)]
  cases i with
  | zero => rw [Function.iterate_zero_apply]; split <;> omega
  | succ i => rw [iterate_idAfter n i (by omega)]; split <;> split <;> omega

/-- A search that ends on an id in use has passed ids in use alone. -/
theorem has_of_allocFrom {tasks : Tab Task} : ∀ {fuel id : Nat}, tasks.has (allocFrom tasks fuel id) = true →
    ∀ k ≤ fuel, tasks.has (idAfter^[k] id) = true
  | 0, id, h, k, hk => by rw [Nat.le_zero.mp hk]; exact h
  | fuel + 1, id, h, k, hk => by
    rw [allocFrom] at h
    by_cases hid : tasks.has id = true
    · rw [if_pos hid] at h
      cases k with
      | zero => exact hid
      | succ k => exact has_of_allocFrom h k (by omega)
    · rw [if_neg hid] at h
      exact absurd h hid

/-- The id that the next task gets is free, R93: a pool of 1024 tasks cannot hold all the ids that the search passes. -/
theorem Floor.get_allocId {f : Floor} (hroom : f.tasks.size ≤ 1024) : f.tasks.get f.allocId = none := by
  by_contra hused
  have hhas : f.tasks.has f.allocId = true := Option.isSome_iff_ne_none.mpr hused
  have hall := has_of_allocFrom hhas
  have hnodup : ((List.range (f.tasks.size + 2)).map fun k => idAfter^[k] f.nextId).Nodup := by
    refine List.Nodup.map_on (fun i hi j hj heq => ?_) List.nodup_range
    rw [List.mem_range] at hi hj
    rcases Nat.lt_trichotomy i j with hij | hij | hij
    · exact absurd heq (iterate_idAfter_ne _ hij (by omega))
    · exact hij
    · exact absurd heq.symm (iterate_idAfter_ne _ hij (by omega))
  have hsub : ((List.range (f.tasks.size + 2)).map fun k => idAfter^[k] f.nextId) ⊆ f.tasks.keys := by
    intro id hid
    obtain ⟨k, hk, rfl⟩ := List.mem_map.mp hid
    exact Tab.mem_keys_of_has (hall k (by rw [List.mem_range] at hk; omega))
  have hle := (hnodup.subperm hsub).length_le
  rw [List.length_map, List.length_range, Tab.keys, List.length_map, ← Tab.size] at hle
  omega

/-! ## What the tables' operations do to sizes and records -/

/-- A write under a key that is not listed adds one cell. -/
theorem Tab.size_put_new {α : Type} {t : Tab α} {k : Nat} {v : α} (hget : t.get k = none) : (t.put k v).size = t.size + 1 := by
  have key : ∀ cells : List (Nat × α), cellGet cells k = none → (cellPut cells k v).length = cells.length + 1 := by
    intro cells
    induction cells with
    | nil => intro; rfl
    | cons x rest ih =>
      obtain ⟨j, u⟩ := x
      intro h
      by_cases hjk : j = k
      · simp [cellGet, hjk] at h
      · rw [cellGet, if_neg hjk] at h
        by_cases hlt : k < j <;> simp [cellPut, hjk, hlt, ih h]
  exact key t.cells hget

theorem Tab.size_erase_le {α : Type} (t : Tab α) (k : Nat) : (t.erase k).size ≤ t.size := by
  show (cellErase t.cells k).length ≤ t.cells.length
  rw [cellErase_eq_filter]
  exact List.length_filter_le _ _

theorem Tab.size_modify {α : Type} {t : Tab α} {k : Nat} {g : α → α} (hwf : t.wf = true) : (t.modify k g).size = t.size := by
  unfold Tab.modify
  split
  · exact Tab.size_put hwf ‹_›
  · rfl

theorem Tab.get_map {α β : Type} (t : Tab α) (g : α → β) (k : Nat) :
    Tab.get ⟨t.cells.map fun c => (c.1, g c.2)⟩ k = (t.get k).map g := by
  have key : ∀ cells : List (Nat × α), cellGet (cells.map fun c => (c.1, g c.2)) k = (cellGet cells k).map g := by
    intro cells
    induction cells with
    | nil => rfl
    | cons x rest ih => by_cases hj : x.1 = k <;> simp [cellGet, hj, ih]
  exact key t.cells

end Sys2Proof.Machine

namespace Sys2Proof.Machine

/-! ## Labels and pool: what agrees

`Yard.Agrees` says of a floor what `Floor.labelsDiffer` and `Floor.poolAgrees` say, read through the tables' `get`. While a
request works on a task, the task may stand apart from its queue for a while; `Slack` says which task that is, and how far. -/

/-- The task that a request is working on, and what holds of it. -/
inductive Slack where
  /-- No task: everything agrees. -/
  | tight
  /-- Everything agrees, and this task, if the pool holds it, is QUEUED. -/
  | queued (id : Nat)
  /-- No mover holds this task. Its issue has ended, and it need not be back in a queue yet, R106. -/
  | apart (id : Nat)

/-- A task that has been issued may stand apart; a new one under its id may not. -/
def Slack.excuses (x : Slack) (id : Nat) (t : Task) : Prop := x = .apart id ∧ t.lastMover ≠ none

/-- R55, R92, R95, R97, R101, R110. -/
structure Yard.Agrees (x : Slack) (y : Yard) : Prop where
  palletsRise : y.pallets.wf = true
  tasksRise : y.tasks.wf = true
  labels : ∀ {a b p q}, y.pallets.get a = some p → y.pallets.get b = some q → p.label = q.label → a = b
  room : y.tasks.size ≤ 1024
  queueOnce : ∀ level, (y.queue level).Nodup
  queue : ∀ {level id}, id ∈ y.queue level → ∃ t, y.tasks.get id = some t ∧ t.mover = none ∧ t.level = level
  issuedOnce : y.issued.Nodup
  issued : ∀ {id}, id ∈ y.issued → ∃ t, y.tasks.get id = some t ∧ (t.mover ≠ none ∨ x.excuses id t)
  waits : ∀ {id t}, y.tasks.get id = some t → t.mover = none → id ∈ y.queue t.level ∨ x.excuses id t
  held : ∀ {id t m}, y.tasks.get id = some t → t.mover = some m → id ∈ y.issued ∧ t.lastMover = some m
  busy : ∀ {m id}, (y.mover m).state = .busy id → ∃ t, y.tasks.get id = some t ∧ t.mover = some m
  unissued : ∀ {id t}, x = .queued id → y.tasks.get id = some t → t.mover = none
  freed : ∀ {id m}, x = .apart id → (y.mover m).state ≠ .busy id

/-! ### The queues after a task has joined or left one -/

theorem Yard.queue_enqueue (y : Yard) (level id k : Nat) :
    (y.enqueue level id).queue k = y.queue k ++ if k = level then [id] else [] := by
  by_cases hk : k = level
  · simp [Floor.queue, hk]
  · simp [Floor.queue, hk, Tab.at_set_other]

theorem Yard.queue_dequeue (y : Yard) (level id k : Nat) :
    (y.dequeue level id).queue k = if k = level then (y.queue k).filter (· ≠ id) else y.queue k := by
  by_cases hk : k = level
  · simp [Floor.queue, hk]
  · simp [Floor.queue, hk, Tab.at_set_other]

/-- A task record that stands in the pool as `t` does. -/
def Task.StandsAs (u t : Task) : Prop := u.mover = t.mover ∧ u.lastMover = t.lastMover ∧ u.level = t.level

theorem Task.forget_standsAs (t : Task) (ref : Nat) : (t.forget ref).StandsAs t := by
  unfold Task.forget
  split <;> exact ⟨rfl, rfl, rfl⟩

/-- The level queues without task `id`. -/
def queuesWithout (q : Tab (List Nat)) (id : Nat) : Tab (List Nat) := ⟨q.cells.map fun c => (c.1, c.2.filter (· ≠ id))⟩

theorem queuesWithout_at (q : Tab (List Nat)) (id k : Nat) : (queuesWithout q id).at [] k = (q.at [] k).filter (· ≠ id) := by
  rw [queuesWithout, Tab.at, Tab.get_map, Tab.at]
  cases q.get k <;> rfl

namespace Yard.Agrees

variable {x : Slack} {y z : Yard}

/-! ### Slack is taken up and given -/

theorem free_of_unissued {id : Nat} (h : y.Agrees x) (hid : ∀ t, y.tasks.get id = some t → t.mover = none) (m : Nat) :
    (y.mover m).state ≠ .busy id := fun hbusy => by
  obtain ⟨t, ht, hm⟩ := h.busy hbusy
  cases (hid t ht).symm.trans hm

theorem free_queued {id : Nat} (h : y.Agrees (.queued id)) : ∀ m, (y.mover m).state ≠ .busy id :=
  h.free_of_unissued fun _ => h.unissued rfl

theorem loosen {id : Nat} (h : y.Agrees .tight) (hfree : ∀ m, (y.mover m).state ≠ .busy id) : y.Agrees (.apart id) :=
  { h with
    issued := fun hid => (h.issued hid).imp fun _ ⟨ht, hm⟩ => ⟨ht, .inl (hm.resolve_right fun hx => nomatch hx.1)⟩
    waits := fun ht hm => .inl ((h.waits ht hm).resolve_right fun hx => nomatch hx.1)
    unissued := fun hx => nomatch hx
    freed := fun hx => by cases hx; exact hfree _ }

theorem mark {id : Nat} (h : y.Agrees .tight) (hid : ∀ t, y.tasks.get id = some t → t.mover = none) :
    y.Agrees (.queued id) :=
  { h with
    issued := fun hid => (h.issued hid).imp fun _ ⟨ht, hm⟩ => ⟨ht, .inl (hm.resolve_right fun hx => nomatch hx.1)⟩
    waits := fun ht hm => .inl ((h.waits ht hm).resolve_right fun hx => nomatch hx.1)
    unissued := fun hx => by cases hx; exact hid _
    freed := fun hx => nomatch hx }

/-- No task stands apart. -/
theorem tighten (h : y.Agrees x) (hx : ∀ id t, x = .apart id → y.tasks.get id = some t → t.lastMover = none) :
    y.Agrees .tight :=
  { h with
    issued := fun hid => (h.issued hid).imp fun _ ⟨ht, hm⟩ =>
      ⟨ht, .inl (hm.resolve_right fun he => he.2 (hx _ _ he.1 ht))⟩
    waits := fun ht hm => .inl ((h.waits ht hm).resolve_right fun he => he.2 (hx _ _ he.1 ht))
    unissued := fun hx => nomatch hx
    freed := fun hx => nomatch hx }

theorem unmark {id : Nat} (h : y.Agrees (.queued id)) : y.Agrees .tight := h.tighten fun _ _ hx => nomatch hx

/-! ### Pallet records are written -/

/-- Records that keep their labels, some of them gone. -/
theorem withPallets {ps : Tab Pallet} (h : y.Agrees x) (hwf : ps.wf = true)
    (hlabels : ∀ ref q, ps.get ref = some q → ∃ p, y.pallets.get ref = some p ∧ p.label = q.label) :
    Yard.Agrees x { y with pallets := ps } :=
  { h with
    palletsRise := hwf
    labels := fun {a b p q} hp hq heq => by
      obtain ⟨p', hp', hlp⟩ := hlabels a p hp
      obtain ⟨q', hq', hlq⟩ := hlabels b q hq
      exact h.labels hp' hq' (hlp.trans (heq.trans hlq.symm)) }

theorem modPallet {ref g} (h : y.Agrees x) (hg : ∀ p, (g p).label = p.label := by exact fun _ => rfl) :
    (y.modPallet ref g).Agrees x := by
  refine h.withPallets (Tab.wf_modify _ _ _ h.palletsRise) fun k q hq => ?_
  by_cases hk : k = ref
  · subst hk
    rw [Tab.get_modify_same] at hq
    obtain ⟨p, hp, rfl⟩ := Option.map_eq_some_iff.mp hq
    exact ⟨p, hp, (hg p).symm⟩
  · rw [Tab.get_modify_other _ _ hk] at hq
    exact ⟨q, hq, rfl⟩

/-- A record whose label no other record carries. -/
theorem setPallet {ref p} (h : y.Agrees x) (hnew : ∀ a q, y.pallets.get a = some q → q.label = p.label → a = ref) :
    (y.setPallet ref p).Agrees x :=
  { h with
    palletsRise := Tab.wf_put _ _ _ h.palletsRise
    labels := fun {a b q r} hq hr heq => by
      simp only [Yard.setPallet_pallets] at hq hr
      by_cases ha : a = ref
      · by_cases hb : b = ref
        · rw [ha, hb]
        · rw [ha, Tab.get_put_same] at hq
          rw [Tab.get_put_other _ _ hb] at hr
          cases hq
          exact absurd (hnew b r hr heq.symm) hb
      · rw [Tab.get_put_other _ _ ha] at hq
        by_cases hb : b = ref
        · rw [hb, Tab.get_put_same] at hr
          cases hr
          exact absurd (hnew a q hq heq) ha
        · rw [Tab.get_put_other _ _ hb] at hr
          exact h.labels hq hr heq }

/-! ### Task records are written -/

/-- Records that stand in the pool as before. -/
theorem retask {g : Nat → Task → Task} {ts : Tab Task} (h : y.Agrees x) (hwf : ts.wf = true) (hroom : ts.size ≤ 1024)
    (hget : ∀ k, ts.get k = (y.tasks.get k).map (g k)) (hg : ∀ k t, (g k t).StandsAs t) :
    Yard.Agrees x { y with tasks := ts } := by
  have hback {k u} (hu : ts.get k = some u) : ∃ t, y.tasks.get k = some t ∧ u = g k t := by
    rw [hget] at hu
    obtain ⟨t, ht, rfl⟩ := Option.map_eq_some_iff.mp hu
    exact ⟨t, ht, rfl⟩
  have hforth {k t} (ht : y.tasks.get k = some t) : ts.get k = some (g k t) := by rw [hget, ht]; rfl
  refine { h with tasksRise := hwf, room := hroom, queue := ?queue, issued := ?issued, waits := ?waits, held := ?held,
                  busy := ?busy, unissued := ?unissued }
  case queue =>
    intro level id hid
    obtain ⟨t, ht, hm, hl⟩ := h.queue hid
    obtain ⟨hmover, -, hlevel⟩ := hg id t
    exact ⟨_, hforth ht, hmover.trans hm, hlevel.trans hl⟩
  case issued =>
    intro id hid
    obtain ⟨t, ht, hm⟩ := h.issued hid
    obtain ⟨hmover, hlast, -⟩ := hg id t
    refine ⟨_, hforth ht, ?_⟩
    rw [Slack.excuses, hmover, hlast]
    exact hm
  case waits =>
    intro id u hu hm
    obtain ⟨t, ht, rfl⟩ := hback hu
    obtain ⟨hmover, hlast, hlevel⟩ := hg id t
    rw [Slack.excuses, hlast, hlevel]
    exact h.waits ht (hmover.symm.trans hm)
  case held =>
    intro id u m hu hm
    obtain ⟨t, ht, rfl⟩ := hback hu
    obtain ⟨hmover, hlast, -⟩ := hg id t
    rw [hlast]
    exact h.held ht (hmover.symm.trans hm)
  case busy =>
    intro m id hbusy
    obtain ⟨t, ht, hm⟩ := h.busy hbusy
    exact ⟨_, hforth ht, (hg id t).1.trans hm⟩
  case unissued =>
    intro id u hx hu
    obtain ⟨t, ht, rfl⟩ := hback hu
    exact (hg id t).1.trans (h.unissued hx ht)

theorem modTask {id g} (h : y.Agrees x) (hg : ∀ t, (g t).StandsAs t := by exact fun _ => ⟨rfl, rfl, rfl⟩) :
    (y.modTask id g).Agrees x := by
  refine h.retask (g := fun k => if k = id then g else fun t => t) (Tab.wf_modify _ _ _ h.tasksRise)
    ((Tab.size_modify h.tasksRise).trans_le h.room) (fun k => ?_) fun k t => ?_
  · by_cases hk : k = id
    · simp [hk]
    · simp [hk, Tab.get_modify_other]
  · by_cases hk : k = id
    · simpa [hk] using hg t
    · simp [hk, Task.StandsAs]

theorem freePallet {ref} (h : y.Agrees x) : (y.freePallet ref).Agrees x := by
  have herased : Yard.Agrees x { y with pallets := y.pallets.erase ref } := by
    refine h.withPallets (Tab.wf_erase _ _ h.palletsRise) fun k q hq => ?_
    by_cases hk : k = ref
    · rw [hk, Tab.get_erase_same] at hq
      cases hq
    · rw [Tab.get_erase_other _ hk] at hq
      exact ⟨q, hq, rfl⟩
  refine herased.retask (g := fun _ t => t.forget ref) (Tab.wf_map _ (fun c => c.2.forget ref) h.tasksRise) ?_
    (Tab.get_map y.tasks fun t => t.forget ref) fun _ t => t.forget_standsAs ref
  simpa [Tab.size] using h.room

/-! ### A task joins or leaves the pool -/

/-- A task that is not ISSUED joins the pool at the tail of its level queue. -/
theorem join {id n : Nat} {t : Task} {q : Tab (List Nat)} {ts : Tab Task} (h : y.Agrees x) (hnew : y.tasks.get id = none)
    (hwf : ts.wf = true) (hroom : ts.size ≤ 1024) (hsame : ts.get id = some t)
    (hother : ∀ k, k ≠ id → ts.get k = y.tasks.get k) (hm : t.mover = none)
    (hq : ∀ k, q.at [] k = y.queue k ++ if k = t.level then [id] else []) :
    Yard.Agrees x { y with tasks := ts, nextId := n, queues := q } := by
  have hne {k : Nat} {u : Task} (hu : y.tasks.get k = some u) : k ≠ id := fun hk => by
    rw [hk, hnew] at hu; cases hu
  have hkeep {k : Nat} {u : Task} (hu : y.tasks.get k = some u) : ts.get k = some u := (hother k (hne hu)).trans hu
  have hmem {k level : Nat} : k ∈ q.at [] level ↔ k ∈ y.queue level ∨ level = t.level ∧ k = id := by
    rw [hq, List.mem_append]
    by_cases hl : level = t.level <;> simp [hl]
  refine { h with tasksRise := hwf, room := hroom, queueOnce := ?queueOnce, queue := ?queue, issued := ?issued, waits := ?waits,
                  held := ?held, busy := ?busy, unissued := ?unissued }
  case queueOnce =>
    intro level
    show (q.at [] level).Nodup
    rw [hq]
    split
    · refine List.nodup_append.mpr ⟨h.queueOnce level, List.nodup_singleton id, fun a ha b hb hab => ?_⟩
      obtain ⟨u, hu, -⟩ := h.queue ha
      exact hne hu (hab.trans (List.mem_singleton.mp hb))
    · rw [List.append_nil]
      exact h.queueOnce level
  case queue =>
    intro level k hk
    rcases hmem.mp hk with hk | ⟨rfl, rfl⟩
    · obtain ⟨u, hu, hstands⟩ := h.queue hk
      exact ⟨u, hkeep hu, hstands⟩
    · exact ⟨t, hsame, hm, rfl⟩
  case issued =>
    intro k hk
    obtain ⟨u, hu, hstands⟩ := h.issued hk
    exact ⟨u, hkeep hu, hstands⟩
  case waits =>
    intro k u hu hnone
    by_cases hk : k = id
    · rw [hk, hsame] at hu
      cases hu
      exact .inl (hmem.mpr (.inr ⟨rfl, hk⟩))
    · exact (h.waits ((hother k hk).symm.trans hu) hnone).imp_left fun hw => hmem.mpr (.inl hw)
  case held =>
    intro k u m hu hsome
    by_cases hk : k = id
    · rw [hk, hsame] at hu
      cases hu
      cases hm.symm.trans hsome
    · exact h.held ((hother k hk).symm.trans hu) hsome
  case busy =>
    intro m k hbusy
    obtain ⟨u, hu, hsome⟩ := h.busy hbusy
    exact ⟨u, hkeep hu, hsome⟩
  case unissued =>
    intro k u hx hu
    by_cases hk : k = id
    · rw [hk, hsame] at hu
      cases hu
      exact hm
    · exact h.unissued hx ((hother k hk).symm.trans hu)

/-- R93: a new task gets an id that no other task has. -/
theorem addTask {t} (h : y.Agrees x) (hroom : y.tasks.size < 1024) (hm : t.mover = none) : (y.addTask t).Agrees x := by
  have hnew := Floor.get_allocId h.room
  rw [Yard.addTask_eq]
  refine h.join hnew (Tab.wf_put _ _ _ h.tasksRise) (Tab.size_put_new hnew ▸ hroom) (Tab.get_put_same ..)
    (fun k hk => Tab.get_put_other _ _ hk) hm fun k => ?_
  exact y.queue_enqueue t.level y.allocId k

/-- A task that no mover holds leaves pool, queue and issue order. -/
theorem leave {id : Nat} {q : Tab (List Nat)} (h : y.Agrees x) (hfree : ∀ m, (y.mover m).state ≠ .busy id)
    (hq : ∀ k, q.at [] k = (y.queue k).filter (· ≠ id)) :
    Yard.Agrees x { y with tasks := y.tasks.erase id, issued := y.issued.filter (· ≠ id), queues := q } := by
  have hkeep {k : Nat} (hk : k ≠ id) : (y.tasks.erase id).get k = y.tasks.get k := Tab.get_erase_other _ hk
  have hback {k : Nat} {u : Task} (hu : (y.tasks.erase id).get k = some u) : k ≠ id ∧ y.tasks.get k = some u := by
    have hk : k ≠ id := fun hk => by rw [hk, Tab.get_erase_same] at hu; cases hu
    exact ⟨hk, (hkeep hk).symm.trans hu⟩
  have hmem {k level : Nat} : k ∈ q.at [] level ↔ k ∈ y.queue level ∧ k ≠ id := by simp [hq]
  refine { h with tasksRise := Tab.wf_erase _ _ h.tasksRise, room := (Tab.size_erase_le _ _).trans h.room,
                  queueOnce := ?queueOnce, queue := ?queue, issuedOnce := h.issuedOnce.filter _, issued := ?issued,
                  waits := ?waits, held := ?held, busy := ?busy, unissued := ?unissued }
  case queueOnce =>
    intro level
    show (q.at [] level).Nodup
    rw [hq]
    exact (h.queueOnce level).filter _
  case queue =>
    intro level k hk
    obtain ⟨hk, hne⟩ := hmem.mp hk
    obtain ⟨u, hu, hstands⟩ := h.queue hk
    exact ⟨u, (hkeep hne).trans hu, hstands⟩
  case issued =>
    intro k hk
    obtain ⟨hk, hne⟩ := List.mem_filter.mp hk
    obtain ⟨u, hu, hstands⟩ := h.issued hk
    exact ⟨u, (hkeep (of_decide_eq_true hne)).trans hu, hstands⟩
  case waits =>
    intro k u hu hnone
    obtain ⟨hne, hu⟩ := hback hu
    exact (h.waits hu hnone).imp_left fun hw => hmem.mpr ⟨hw, hne⟩
  case held =>
    intro k u m hu hsome
    obtain ⟨hne, hu⟩ := hback hu
    exact (h.held hu hsome).imp_left fun hi => List.mem_filter.mpr ⟨hi, decide_eq_true hne⟩
  case busy =>
    intro m k hbusy
    obtain ⟨u, hu, hsome⟩ := h.busy hbusy
    exact ⟨u, (hkeep fun hk => hfree m (hk ▸ hbusy)).trans hu, hsome⟩
  case unissued =>
    intro k u hx hu
    exact h.unissued hx (hback hu).2

/-- No queue but that of its own level holds a task. -/
theorem queue_dequeue {id k : Nat} {t : Task} (h : y.Agrees x) (ht : y.tasks.get id = some t) :
    (y.dequeue t.level id).queue k = (y.queue k).filter (· ≠ id) := by
  rw [Yard.queue_dequeue]
  split
  · rfl
  · refine (List.filter_eq_self.mpr fun i hi => decide_eq_true ?_).symm
    rintro rfl
    obtain ⟨u, hu, -, hlevel⟩ := h.queue hi
    cases ht.symm.trans hu
    exact absurd hlevel.symm ‹_›

theorem takeTaskOut {id} (h : y.Agrees x) (hfree : ∀ m, (y.mover m).state ≠ .busy id) : (y.takeTaskOut id).Agrees x := by
  unfold Yard.takeTaskOut
  split
  · exact h
  · exact h.leave hfree fun k => h.queue_dequeue ‹_›

theorem get_takeTaskOut {id : Nat} : (y.takeTaskOut id).tasks.get id = none := by
  unfold Yard.takeTaskOut
  split
  · assumption
  · exact Tab.get_erase_same ..

theorem takeTaskOut_apart {id} (h : y.Agrees (.apart id)) : (y.takeTaskOut id).Agrees .tight :=
  (h.takeTaskOut fun _ => h.freed rfl).tighten fun _ t hx ht => by cases hx; cases get_takeTaskOut.symm.trans ht

/-- A task that no mover holds goes to the tail of a queue, R41, R111. -/
theorem requeue {id : Nat} {t u : Task} {q : Tab (List Nat)} (h : y.Agrees x) (hx : ∀ i, x = .apart i → i = id)
    (hfree : ∀ m, (y.mover m).state ≠ .busy id) (ht : y.tasks.get id = some t) (hm : u.mover = none)
    (hq : ∀ k, q.at [] k = (y.queue k).filter (· ≠ id) ++ if k = u.level then [id] else []) :
    Yard.Agrees (.queued id) { y with tasks := y.tasks.put id u, issued := y.issued.filter (· ≠ id), queues := q } := by
  have hout := (h.leave hfree (queuesWithout_at y.queues id)).tighten fun i v hi hv => by
    rw [hx i hi, Tab.get_erase_same] at hv; cases hv
  refine (hout.join (n := y.nextId) (q := q) (Tab.get_erase_same ..) (Tab.wf_put _ _ u h.tasksRise)
    ((Tab.size_put h.tasksRise ht).trans_le h.room) (Tab.get_put_same ..)
    (fun k hk => (Tab.get_put_other _ _ hk).trans (Tab.get_erase_other _ hk).symm) hm fun k => ?_).mark fun v hv => ?_
  · exact (hq k).trans (congrArg (· ++ _) (queuesWithout_at y.queues id k).symm)
  · rw [Tab.get_put_same] at hv
    exact Option.some.inj hv ▸ hm

end Yard.Agrees

end Sys2Proof.Machine

namespace Sys2Proof.Machine

namespace Yard.Agrees

variable {x : Slack} {y z : Yard} {env : Env}

/-! ### A task changes its queue, is issued, or is taken off its mover -/

/-- A task that no mover holds leaves its queue and the order of issue and joins the tail of a queue. -/
theorem rejoin {id level : Nat} {t : Task} {g : Task → Task} {is : List Nat} (h : y.Agrees x)
    (hx : ∀ i, x = .apart i → i = id) (hfree : ∀ m, (y.mover m).state ≠ .busy id) (ht : y.tasks.get id = some t)
    (hm : (g t).mover = none) (hlevel : (g t).level = level) (his : is = y.issued.filter (· ≠ id)) :
    (({ (y.dequeue t.level id).modTask id g with issued := is } : Yard).enqueue level id).Agrees (.queued id) := by
  have hz : ({ (y.dequeue t.level id).modTask id g with issued := is } : Yard).enqueue level id =
      { y with
        tasks := y.tasks.put id (g t)
        issued := y.issued.filter (· ≠ id)
        queues := ((y.dequeue t.level id).enqueue level id).queues } := by
    rw [Yard.modTask, Yard.dequeue_tasks, Tab.modify_of_get g ht, his]
    rfl
  rw [hz]
  refine h.requeue hx hfree ht hm fun k => ?_
  rw [hlevel]
  exact (Yard.queue_enqueue _ level id k).trans (congrArg (· ++ _) (h.queue_dequeue ht))

theorem not_mem_issued {id : Nat} {t : Task} (h : y.Agrees x) (hx : x ≠ .apart id) (ht : y.tasks.get id = some t)
    (hm : t.mover = none) : id ∉ y.issued := fun hid => by
  obtain ⟨u, hu, hstands⟩ := h.issued hid
  cases ht.symm.trans hu
  rcases hstands with hu | hu
  · exact hu hm
  · exact hx hu.1

/-- A QUEUED task moves to the tail of another queue, R41, R42. -/
theorem changeLevel {id level : Nat} {t : Task} {g : Task → Task} (h : y.Agrees (.queued id)) (ht : y.tasks.get id = some t)
    (hm : (g t).mover = t.mover) (hlevel : (g t).level = level) :
    (((y.dequeue t.level id).modTask id g).enqueue level id).Agrees (.queued id) := by
  have hnone := h.unissued rfl ht
  refine h.rejoin (is := y.issued) nofun h.free_queued ht (hm.trans hnone) hlevel ?_
  refine (List.filter_eq_self.mpr fun i hi => decide_eq_true ?_).symm
  rintro rfl
  exact h.not_mem_issued nofun ht hnone hi

theorem setMover {m r} (h : y.Agrees x) (hr : ∀ id, r.state ≠ .busy id) : (y.setMover m r).Agrees x := by
  have hbusy {k id} (hb : ((y.setMover m r).mover k).state = .busy id) : (y.mover k).state = .busy id := by
    by_cases hk : k = m
    · rw [hk, Floor.mover_setMover] at hb
      exact absurd hb (hr id)
    · rwa [Floor.mover_setMover_other _ _ hk] at hb
  exact { h with
    busy := fun hb => h.busy (hbusy hb)
    freed := fun hx hb => h.freed hx (hbusy hb) }

theorem freeMover {id st} (h : y.Agrees x) (hst : ∀ i, st ≠ .busy i) : (y.freeMover id st).Agrees x := by
  unfold Yard.freeMover
  split
  · exact h
  · exact h.setMover hst

/-- A task taken off its mover may stand apart. -/
theorem freeMover_apart {id st} (h : y.Agrees .tight) (hst : ∀ i, st ≠ .busy i) : (y.freeMover id st).Agrees (.apart id) := by
  refine (h.freeMover hst).loosen fun k hb => ?_
  unfold Yard.freeMover at hb
  split at hb
  · rename_i hnone
    obtain ⟨t, ht, hm⟩ := h.busy hb
    rw [ht] at hnone
    cases hnone.symm.trans hm
  · rename_i m hsome
    by_cases hk : k = m
    · rw [hk, Floor.mover_setMover] at hb
      exact hst id hb
    · rw [Floor.mover_setMover_other _ _ hk] at hb
      obtain ⟨t, ht, hm⟩ := h.busy hb
      rw [ht] at hsome
      exact hk (Option.some.inj (hm.symm.trans hsome))

/-- The issue of a QUEUED task, R101, before its pallets' states change. -/
theorem issue {id m : Nat} {t u : Task} {q : Tab (List Nat)} {ms : Tab Mover} (h : y.Agrees .tight)
    (ht : y.tasks.get id = some t) (hm : t.mover = none) (hu : u.mover = some m) (hlast : u.lastMover = some m)
    (hq : ∀ k, q.at [] k = (y.queue k).filter (· ≠ id)) (hbusy : (ms.at Mover.reset m).state = .busy id)
    (hidle : ∀ k, k ≠ m → ms.at Mover.reset k = y.mover k) :
    Yard.Agrees .tight
      { y with tasks := y.tasks.put id u, issued := y.issued ++ [id], queues := q, movers := ms } := by
  have hkeep {k : Nat} (hk : k ≠ id) : (y.tasks.put id u).get k = y.tasks.get k := Tab.get_put_other _ _ hk
  have hmem {k level : Nat} : k ∈ q.at [] level ↔ k ∈ y.queue level ∧ k ≠ id := by simp [hq]
  have hnot := h.not_mem_issued nofun ht hm
  refine { h with tasksRise := Tab.wf_put _ _ _ h.tasksRise, room := (Tab.size_put h.tasksRise ht).trans_le h.room,
                  queueOnce := ?queueOnce, queue := ?queue, issuedOnce := ?issuedOnce, issued := ?issued,
                  waits := ?waits, held := ?held, busy := ?busy, unissued := nofun, freed := nofun }
  case queueOnce =>
    intro level
    show (q.at [] level).Nodup
    rw [hq]
    exact (h.queueOnce level).filter _
  case queue =>
    intro level k hk
    obtain ⟨hk, hne⟩ := hmem.mp hk
    obtain ⟨v, hv, hstands⟩ := h.queue hk
    exact ⟨v, (hkeep hne).trans hv, hstands⟩
  case issuedOnce =>
    refine List.nodup_append.mpr ⟨h.issuedOnce, List.nodup_singleton id, fun a ha b hb hab => ?_⟩
    exact hnot (List.mem_singleton.mp hb ▸ hab ▸ ha)
  case issued =>
    intro k hk
    by_cases hkid : k = id
    · exact ⟨u, by rw [hkid]; exact Tab.get_put_same .., .inl (by rw [hu]; nofun)⟩
    · obtain ⟨v, hv, hstands⟩ := h.issued ((List.mem_append.mp hk).resolve_right fun hk => hkid (List.mem_singleton.mp hk))
      exact ⟨v, (hkeep hkid).trans hv, hstands⟩
  case waits =>
    intro k v hv hnone
    by_cases hkid : k = id
    · rw [hkid, Tab.get_put_same] at hv
      cases hv
      cases hnone.symm.trans hu
    · rw [hkeep hkid] at hv
      exact (h.waits hv hnone).imp_left fun hw => hmem.mpr ⟨hw, hkid⟩
  case held =>
    intro k v n hv hsome
    by_cases hkid : k = id
    · subst hkid
      rw [Tab.get_put_same] at hv
      cases hv
      cases hsome.symm.trans hu
      exact ⟨List.mem_append_right _ (List.mem_singleton_self k), hlast⟩
    · rw [hkeep hkid] at hv
      exact (h.held hv hsome).imp_left fun hi => List.mem_append_left _ hi
  case busy =>
    intro n k hb
    by_cases hn : n = m
    · subst hn
      cases MoverState.busy.inj (hbusy.symm.trans hb)
      exact ⟨u, Tab.get_put_same .., hu⟩
    · obtain ⟨v, hv, hsome⟩ := h.busy ((congrArg Mover.state (hidle n hn)).symm.trans hb)
      have hkid : k ≠ id := fun hkid => by
        rw [hkid, ht] at hv
        cases hv
        cases hm.symm.trans hsome
      exact ⟨v, (hkeep hkid).trans hv, hsome⟩

theorem issueTask {m id} (h : y.Agrees .tight) (hid : ∀ t, y.tasks.get id = some t → t.mover = none) :
    (y.issueTask env m id).Agrees .tight := by
  unfold Yard.issueTask
  split
  · exact h
  · rename_i t ht
    refine foldl_keeps modPallet ?_
    simp only [Yard.modTask, Yard.dequeue_tasks, Tab.modify_of_get _ ht]
    refine h.issue ht (hid t ht) rfl rfl (fun k => h.queue_dequeue ht) ?_ fun k hk => ?_
    · exact congrArg Mover.state (Tab.at_set_same ..)
    · exact Tab.at_set_other _ _ _ hk

/-! ### Records and lists that the pool does not read -/

theorem setTip {n t} (h : y.Agrees x) : (y.setTip n t).Agrees x := { h with }

theorem setDeck {d k} (h : y.Agrees x) : (y.setDeck d k).Agrees x := { h with }

theorem modDep {d g} (h : y.Agrees x) : (y.modDep d g).Agrees x := { h with }

theorem setDoor {n r} (h : y.Agrees x) : (y.setDoor n r).Agrees x := { h with }

theorem setLane {l r} (h : y.Agrees x) : (y.setLane l r).Agrees x := { h with }

theorem note {n o} (h : y.Agrees x) : (y.note env o n).Agrees x := { h with }

theorem withWaiting {w} (h : y.Agrees x) : Yard.Agrees x { y with waiting := w } := { h with }

theorem withBacklog {w} (h : y.Agrees x) : Yard.Agrees x { y with backlog := w } := { h with }

/-- Lane records and reports alone have changed. -/
theorem lanesOnly (h : y.Agrees x) (hz : y.lanesOnly z) : z.Agrees x := by
  rw [hz]
  exact { h with }

theorem watch {before} (h : y.Agrees x) : (y.watch env before).Agrees x := h.lanesOnly (y.watch_lanesOnly env before)

theorem leaveLoc {loc ref} (h : y.Agrees x) : (y.leaveLoc loc ref).Agrees x := by
  unfold Yard.leaveLoc
  split
  · split
    · exact h.setLane
    · exact h
  · exact h

theorem unexpectAt {dst} (h : y.Agrees x) : (y.unexpectAt dst).Agrees x := by
  unfold Yard.unexpectAt
  split
  · exact h.setLane
  · exact h

/-! ### Tasks are asked for -/

theorem createTask {t r} (h : y.Agrees x) (hm : t.mover = none) (hr : y.createTask t = some r) : r.2.Agrees x := by
  obtain ⟨hroom, -, hz⟩ := Yard.createTask_cases hr
  exact hz ▸ h.addTask (Nat.lt_of_not_le (of_decide_eq_false hroom)) hm

theorem askTask {kind level src dst ref} (h : y.Agrees x) : (y.askTask kind level src dst ref).2.Agrees x := by
  rcases y.askTask_cases kind level src dst ref with ⟨hroom, he⟩ | ⟨-, he⟩ <;> rw [he]
  · exact h.addTask (Nat.lt_of_not_le (of_decide_eq_false hroom)) rfl
  · exact h.withBacklog

theorem admitBacklog (h : y.Agrees x) : y.admitBacklog.Agrees x := by
  unfold Yard.admitBacklog
  split
  · exact h
  · split
    · exact h
    · exact h.withBacklog.addTask (Nat.lt_of_not_le (mt decide_eq_true ‹_›)) rfl

/-! ### Deck entries -/

theorem tryPlace {d ref} (h : y.Agrees x) (hz : y.tryPlace env d ref = some z) : z.Agrees x := by
  obtain ⟨pos, -, rfl⟩ := Yard.tryPlace_some hz
  unfold Yard.place
  split
  · exact h
  · exact h.setDeck.modPallet.modDep

theorem shiftStatus {d ref src dst} (h : y.Agrees x) : (y.shiftStatus d ref src dst).Agrees x := h.setDeck

theorem pullEntry {d ref pos} (h : y.Agrees x) : (y.pullEntry env d ref pos).Agrees x := by
  unfold Yard.pullEntry
  split
  · exact h
  · exact h.setDeck.modPallet

theorem loadEntry {d ref} (h : y.Agrees x) : (y.loadEntry d ref).Agrees x := by
  unfold Yard.loadEntry
  split
  · split
    · exact h.shiftStatus.modPallet
    · exact h
  · exact h

/-! ### Departure control's release and the pool's leavers -/

theorem depNote {d e} (h : y.Agrees x) : (y.depNote env d e).Agrees x := h.note

theorem mover_of_loadTask {f : Floor} {d s t} (ht : f.loadTask d s = some t) : t.mover = none := by
  unfold Floor.loadTask at ht
  split at ht <;> cases ht <;> rfl

theorem releaseEntry {d s} (h : y.Agrees x) (hz : y.releaseEntry d s = some z) : z.Agrees x := by
  unfold Yard.releaseEntry at hz
  split at hz
  · cases hz
  · rename_i ht
    obtain ⟨r, hr, rfl⟩ := Option.map_eq_some_iff.mp hz
    exact (h.createTask (mover_of_loadTask ht) hr).shiftStatus

theorem releaseWalk {d batch} : ∀ {l : List Slot} {y : Yard}, y.Agrees x → (releaseWalk d batch l y).Agrees x
  | [], _, h => h
  | s :: rest, y, h => by
    unfold Machine.releaseWalk
    split
    · exact releaseWalk h
    · exact releaseWalk h
    · split
      · split
        · rename_i hz; exact releaseWalk (h.releaseEntry hz)
        · exact h.modDep
      · exact h

theorem release {d} (h : y.Agrees x) : (y.release env d).Agrees x := by
  unfold Yard.release
  split
  · exact h
  · split
    · exact h.releaseWalk
    · exact h

theorem loadedTest {d} (h : y.Agrees x) : (y.loadedTest env d).Agrees x := by
  unfold Yard.loadedTest
  split
  · exact h.modDep.depNote
  · exact h

theorem stopTest {d} (h : y.Agrees x) : (y.stopTest env d).Agrees x := by
  unfold Yard.stopTest
  split
  · exact h.modDep.depNote
  · exact h

theorem evaluate {d} (h : y.Agrees x) : (y.evaluate env d).Agrees x := by
  unfold Yard.evaluate
  split
  · exact h
  · exact h.release.loadedTest.stopTest

theorem wakeStalled (h : y.Agrees x) : (y.wakeStalled env).Agrees x := foldl_keeps evaluate (foldl_keeps modDep h)

theorem leavePool {id} (h : y.Agrees x) (hfree : ∀ m, (y.mover m).state ≠ .busy id) : (y.leavePool env id).Agrees x := by
  unfold Yard.leavePool
  split
  · exact (h.takeTaskOut hfree).admitBacklog.wakeStalled
  · exact h

/-- Once a task that may stand apart has left, everything agrees. -/
theorem leavePool_apart {id} (h : y.Agrees (.apart id)) : (y.leavePool env id).Agrees .tight := by
  unfold Yard.leavePool
  split
  · exact h.takeTaskOut_apart.admitBacklog.wakeStalled
  · rename_i hnone
    refine h.tighten fun i t hi ht => absurd ?_ hnone
    cases hi
    exact Option.isSome_of_eq_some ht

theorem leavePool_queued {id} (h : y.Agrees (.queued id)) : (y.leavePool env id).Agrees (.queued id) :=
  h.leavePool h.free_queued

/-! ### Routing and removal -/

/-- No mover holds a task that carries a pallet and is QUEUED. -/
theorem free_of_carrier {ref id : Nat} {t : Task} (h : y.Agrees x) (hc : y.carrier ref = some (id, t))
    (hi : t.isIssued = false) : ∀ m, (y.mover m).state ≠ .busy id := by
  refine h.free_of_unissued fun u hu => ?_
  cases (Tab.get_of_mem h.tasksRise (List.mem_of_find?_eq_some hc)).symm.trans hu
  exact Option.not_isSome_iff_eq_none.mp (Bool.eq_false_iff.mp hi)

theorem routeOver {stand ref} :
    ∀ {ds : List Nat} {r : Routed}, y.Agrees x → y.routeOver env stand ref ds = some r → r.yard.Agrees x
  | [], _, _, hr => by cases hr
  | d :: rest, r, h, hr => by
    unfold Yard.routeOver at hr
    split at hr
    · exact routeOver h hr
    · split at hr
      · rename_i hz; cases hr; exact h.tryPlace hz
      · exact routeOver h hr

theorem route {stand ref without r} (h : y.Agrees x) (hr : y.route env stand ref without = some r) : r.yard.Agrees x :=
  h.routeOver hr

theorem giveMove {stand ref lane} (h : y.Agrees x) : (y.giveMove stand ref lane).Agrees x := by
  unfold Yard.giveMove
  split
  · exact h
  · exact h.modPallet.setLane.askTask

theorem bindHold {ref} (h : y.Agrees x) : (y.bindHold ref).2.Agrees x := by
  unfold Yard.bindHold
  simp only
  split
  · exact h.modPallet.askTask
  · exact h.modPallet.askTask
  · exact h.modPallet
  · exact h

theorem takeOffTask {id ref} (h : y.Agrees x) (hfree : ∀ m, (y.mover m).state ≠ .busy id) :
    (y.takeOffTask env id ref).Agrees x := by
  unfold Yard.takeOffTask
  simp only
  split
  · split
    · exact h.modTask.leavePool hfree
    · exact h.modTask
  · exact h.modTask

theorem takeOffTask_queued {id ref} (h : y.Agrees (.queued id)) : (y.takeOffTask env id ref).Agrees (.queued id) :=
  h.takeOffTask h.free_queued

theorem takeOffTip {ref} (h : y.Agrees x) : (y.takeOffTip env ref).Agrees x := by
  unfold Yard.takeOffTip
  split
  · rename_i id t hc
    split
    · rename_i htip
      have hmovers : (y.unexpectAt t.dst).movers = y.movers := by unfold Yard.unexpectAt; split <;> rfl
      refine h.unexpectAt.takeOffTask fun m => ?_
      rw [Floor.mover, hmovers]
      exact h.free_of_carrier hc htip.2 m
    · exact h
  · split
    · split
      · exact h.unexpectAt.withBacklog
      · exact h
    · exact h

theorem takeOffRelocate {ref} (h : y.Agrees x) : (y.takeOffRelocate env ref).Agrees x := by
  unfold Yard.takeOffRelocate
  split
  · rename_i hc
    split
    · exact h.takeOffTask (h.free_of_carrier hc ‹_›)
    · exact h
  · exact h.withBacklog

theorem reroute {cause former ref} (h : y.Agrees x) : (y.reroute env cause former ref).2.Agrees x := by
  unfold Yard.reroute
  simp only
  split
  · rename_i hr; exact (h.takeOffTip.route hr).giveMove.note
  · exact h.takeOffTip.bindHold.note

theorem withdrawRelease {ref} (h : y.Agrees x) : (y.withdrawRelease env ref).Agrees x := by
  unfold Yard.withdrawRelease
  split
  · rename_i hc
    split
    · rename_i hi; exact h.leavePool (h.free_of_carrier hc hi.2)
    · exact h
  · exact h

theorem liftEntry {d pos ref} (h : y.Agrees x) : (y.liftEntry env d pos ref).Agrees x := h.withdrawRelease.pullEntry

theorem replaceOne {cause d pos tier ref} (h : y.Agrees x) : (y.replaceOne env cause d pos tier ref).2.Agrees x := by
  unfold Yard.replaceOne
  split
  · rename_i hz; exact (h.tryPlace hz).note
  · exact h.reroute

theorem replaceAll {cause d pos} :
    ∀ {refs : List Nat} {tier : Nat} {y : Yard}, y.Agrees x → (replaceAll env cause d pos tier refs y).2.Agrees x
  | [], _, _, h => h
  | _ :: rest, _, _, h => replaceAll (refs := rest) h.replaceOne

theorem removeEntry {cause ref} (h : y.Agrees x) : (y.removeEntry env cause ref).2.Agrees x := by
  unfold Yard.removeEntry
  split
  · exact foldl_keeps evaluate (replaceAll (foldl_keeps liftEntry h.withdrawRelease).pullEntry).evaluate
  · exact h

theorem rerouteTold {cause former ref} (h : y.Agrees x) : (y.rerouteTold env cause former ref).2.Agrees x := by
  unfold Yard.rerouteTold
  simp only
  split
  · exact h.reroute.evaluate
  · exact h.reroute

theorem goMissing {cause former ref} (h : y.Agrees x) : (y.goMissing env cause former ref).Agrees x := h.modPallet.note

/-! ### Lift, return and expiry -/

theorem tipLift {l ref} (h : y.Agrees x) : (y.tipLift env l ref).Agrees x := by
  unfold Yard.tipLift
  simp only
  split
  · exact h.setLane.modPallet.askTask
  · split
    · exact h.setLane.modPallet.evaluate
    · exact h.setLane.modPallet

theorem loadLift {src d ref} (h : y.Agrees x) : (y.loadLift env src d ref).Agrees x := h.leaveLoc.loadEntry.evaluate

theorem relocateLift {src dst ref} (h : y.Agrees x) : (y.relocateLift src dst ref).Agrees x := h.leaveLoc.modPallet

theorem liftDone {id t ref} (h : y.Agrees x) : (y.liftDone env id t ref).Agrees x := by
  unfold Yard.liftDone
  simp only
  split
  · split
    · exact h.modTask.tipLift
    · exact h.modTask
  · split
    · exact h.modTask.loadLift
    · exact h.modTask
  · split
    · exact h.modTask.loadLift
    · exact h.modTask
  · exact h.modTask.relocateLift
  · exact h.modTask

theorem recordLifts {id t n} (h : y.Agrees x) : (y.recordLifts env id t n).Agrees x := by
  unfold Yard.recordLifts
  split
  · exact h.modTask
  · exact foldl_keeps liftDone h

theorem toldEnded {t} (h : y.Agrees x) : (y.toldEnded env t).Agrees x := by
  unfold Yard.toldEnded
  split
  · exact h.stopTest
  · exact h

theorem returnPallet {id t ref} (h : y.Agrees (.queued id)) : (y.returnPallet env id t ref).Agrees (.queued id) := by
  have hrested : (y.modPallet ref fun p => { p with state := t.restState p.loc }).Agrees (.queued id) := h.modPallet
  unfold Yard.returnPallet
  simp only
  split
  · exact hrested.unexpectAt.takeOffTask_queued.bindHold
  · exact hrested

theorem loadReturned {id d ref} (h : y.Agrees (.queued id)) : (y.loadReturned env id d ref).Agrees (.queued id) := by
  unfold Yard.loadReturned
  split
  · exact h
  · split
    case h_1 =>
      simp only
      split
      · exact h
      · exact h.changeLevel ‹_› rfl rfl
    case h_2 => exact h.leavePool_queued.shiftStatus.evaluate
    case h_3 => exact h.leavePool_queued.shiftStatus.evaluate
    case h_4 => exact h.leavePool_queued.removeEntry.rerouteTold
    all_goals exact h

/-- A task that no mover holds is back in a queue, R111. -/
theorem returnTask {id level mark} (h : y.Agrees (.apart id)) : (y.returnTask env id level mark).Agrees .tight := by
  unfold Yard.returnTask
  split
  · rename_i hnone
    refine h.tighten fun i t hi ht => ?_
    cases hi
    cases hnone.symm.trans ht
  · rename_i t ht
    have hback (g : Task → Task) (hm : (g t).mover = none) (hl : (g t).level = level) :=
      h.rejoin (is := y.issued.filter (· ≠ id)) (fun i hi => (Slack.apart.inj hi).symm) (fun _ => h.freed rfl) ht hm hl rfl
    simp only
    split
    · exact (foldl_keeps returnPallet (hback _ rfl rfl)).loadReturned.unmark
    · exact (foldl_keeps returnPallet (hback _ rfl rfl)).unmark

theorem expireTask {id} (h : y.Agrees .tight) : (y.expireTask env id).Agrees .tight := by
  unfold Yard.expireTask
  split
  · exact h
  · exact (h.freeMover_apart (st := .idle) fun _ => nofun).returnTask.note

theorem expireWatched {id} (h : y.Agrees .tight) : (y.expireWatched env id).Agrees .tight := h.expireTask.watch

end Yard.Agrees

end Sys2Proof.Machine

namespace Sys2Proof.Machine

/-! ## Labels and pool: calls, cut-off, closing and events -/

namespace Yard.Agrees

variable {y z : Yard} {env : Env}

/-! ### Calls, doors and changeovers -/

theorem takeDoor {d n} (h : y.Agrees .tight) : (y.takeDoor env d n).Agrees .tight :=
  h.setDoor.withWaiting.modDep.depNote.evaluate

theorem call {d} (h : y.Agrees .tight) : (y.call env d).Agrees .tight := by
  unfold Yard.call
  split
  · exact h
  · simp only
    split
    · exact h.modDep.takeDoor
    · exact h.modDep.withWaiting.modDep.depNote

theorem handOver {n} (h : y.Agrees .tight) : (y.handOver env n).Agrees .tight := by
  unfold Yard.handOver
  split
  · exact h.takeDoor
  · exact h

theorem endChangeover {n} (h : y.Agrees .tight) : (y.endChangeover env n).Agrees .tight := by
  unfold Yard.endChangeover
  simp only
  split
  · exact h.setDoor
  · exact h.setDoor.handOver

theorem releaseDoor {n} (h : y.Agrees .tight) : (y.releaseDoor env n).Agrees .tight := by
  unfold Yard.releaseDoor
  simp only
  split
  · exact h.setDoor.handOver
  · exact h.setDoor

theorem waveRelease (h : y.Agrees .tight) : (y.waveRelease env).Agrees .tight := foldl_keeps releaseDoor h

theorem giveUpDoor {d} (h : y.Agrees .tight) : (y.giveUpDoor env d).Agrees .tight := by
  unfold Yard.giveUpDoor
  split
  · exact h
  · exact h.setDoor.modDep

theorem endIfDue {n} (h : y.Agrees .tight) : (y.endIfDue env n).Agrees .tight := by
  unfold Yard.endIfDue
  split
  · exact h.endChangeover
  · exact h

/-! ### Cut-off and closing -/

theorem rerouteAll {d} : ∀ {refs : List Nat} {y : Yard}, y.Agrees .tight → (rerouteAll env d refs y).2.Agrees .tight
  | [], _, h => h
  | _ :: rest, _, h => rerouteAll (refs := rest) h.rerouteTold

theorem cutOff {d} (h : y.Agrees .tight) : (y.cutOff env d).2.Agrees .tight := by
  unfold Yard.cutOff
  exact (rerouteAll (foldl_keeps (fun hz => hz.removeEntry) h.withWaiting.modDep)).modDep.depNote

/-- A load task that is withdrawn is first taken off its mover, R50. -/
theorem withdrawEntry {d ref} (h : y.Agrees .tight) : (y.withdrawEntry env d ref).Agrees .tight := by
  unfold Yard.withdrawEntry
  simp only
  split
  · split
    · exact (h.freeMover_apart (st := .idle) fun _ => nofun).leavePool_apart.leaveLoc.removeEntry.goMissing
    · exact h.leaveLoc.removeEntry.goMissing
  · exact h.leaveLoc.removeEntry.goMissing

theorem clearDeck {d} (h : y.Agrees .tight) : (y.clearDeck d).Agrees .tight := (foldl_keeps freePallet h).setDeck

theorem ite {p : Prop} [Decidable p] (h : y.Agrees .tight) (hz : z.Agrees .tight) :
    (if p then y else z).Agrees .tight := by
  split
  · exact h
  · exact hz

theorem close {d} (h : y.Agrees .tight) : (y.close env d).2.Agrees .tight := by
  unfold Yard.close
  have closed {missing : List Nat} {g} {w : Yard} (hw : w.Agrees .tight) :
      (((missing.foldl (fun z ref => z.withdrawEntry env d ref) w).clearDeck d).modDep d g).Agrees .tight :=
    (foldl_keeps withdrawEntry hw).clearDeck.modDep
  exact note (ite (closed (ite h h.cutOff)).giveUpDoor (closed (ite h h.cutOff)))

/-! ### Timed events -/

/-- Tasks that stand in queue 5 move to level 6 one after the other, R41. -/
theorem foldl_raise : ∀ {ids : List Nat} {y : Yard}, y.Agrees .tight → ids.Nodup →
    (∀ id ∈ ids, ∃ t, y.tasks.get id = some t ∧ t.mover = none ∧ t.level = 5) →
    (ids.foldl (fun z id => ((z.dequeue 5 id).modTask id fun t => { t with level := 6 }).enqueue 6 id) y).Agrees .tight
  | [], _, h, _, _ => h
  | id :: rest, y, h, hnodup, hstand => by
    obtain ⟨hid, hrest⟩ := List.nodup_cons.mp hnodup
    obtain ⟨t, ht, hm, hlevel⟩ := hstand id List.mem_cons_self
    have hmarked : y.Agrees (.queued id) := h.mark fun u hu => by cases ht.symm.trans hu; exact hm
    have hmoved := hmarked.changeLevel (level := 6) (g := fun t => { t with level := 6 }) ht rfl rfl
    rw [hlevel] at hmoved
    refine foldl_raise (ids := rest) hmoved.unmark hrest fun k hk => ?_
    obtain ⟨u, hu, hstands⟩ := hstand k (List.mem_cons_of_mem _ hk)
    exact ⟨u, (Tab.get_modify_other _ _ fun hkid : k = id => hid (hkid ▸ hk)).trans hu, hstands⟩

theorem raiseQueued {d} (h : y.Agrees .tight) : (y.raiseQueued d).Agrees .tight :=
  foldl_raise h ((h.queueOnce 5).filter _) fun _ hid => h.queue (List.mem_of_mem_filter hid)

theorem marginEvent {d} (h : y.Agrees .tight) : (y.marginEvent d).Agrees .tight := h.modDep.raiseQueued

theorem callEvent {d} (h : y.Agrees .tight) : (y.callEvent env d).Agrees .tight := by
  unfold Yard.callEvent
  split
  · exact h.call
  · exact h.modDep

theorem cutEvent {d} (h : y.Agrees .tight) : (y.cutEvent env d).Agrees .tight := by
  unfold Yard.cutEvent
  split
  · exact h.cutOff
  · exact h.modDep

theorem takeEvent {d ev} (h : y.Agrees .tight) : (y.takeEvent env d ev).Agrees .tight := by
  cases ev with
  | call => exact h.callEvent
  | margin => exact h.marginEvent
  | cut => exact h.cutEvent.watch

theorem takeDue {d} : ∀ {n : Nat} {y : Yard}, y.Agrees .tight → (y.takeDue env d n).Agrees .tight
  | 0, _, h => h
  | n + 1, y, h => by
    unfold Yard.takeDue
    split
    · exact takeDue h.takeEvent
    · exact h

theorem examine (h : y.Agrees .tight) : (y.examine env).Agrees .tight := foldl_keeps takeDue h

theorem endCutOff (h : y.Agrees .tight) : (y.endCutOff env).Agrees .tight := by
  refine foldl_keeps (fun {z d} hz => ?_) h
  split
  · exact hz.cutOff.watch
  · exact hz

/-! ### The floor's part of an applied plan entry -/

theorem sizeDeck {d} (h : y.Agrees .tight) : (y.sizeDeck env d).Agrees .tight := h.setDeck

theorem applyEntry {old e} (h : y.Agrees .tight) : (y.applyEntry old env e).Agrees .tight := by
  cases e with
  | night => exact h
  | profile => exact foldl_keeps sizeDeck h
  | door =>
    unfold Yard.applyEntry
    simp only
    split
    · exact h
    · split
      · exact h.setDoor.handOver
      · exact h.setDoor
  | lane => exact h.setLane
  | departure n w =>
    cases w with
    | withdraw => exact { h with }
    | entry e =>
      simp only [Yard.applyEntry]
      split
      · exact sizeDeck { h with }
      · split
        · exact h
        · exact h.sizeDeck
  | route => exact h

/-! ### Opening and closing the night -/

/-- No mover is BUSY when the night opens, R160. -/
theorem ready (h : y.Agrees .tight) : (y.ready env).Agrees .tight :=
  foldl_keeps setDoor (foldl_keeps sizeDeck { h with busy := nofun, freed := nofun })

theorem carryOne {ref} (h : y.Agrees .tight) : (y.carryOne env ref).2.Agrees .tight := by
  unfold Yard.carryOne
  split
  · exact h
  · rename_i hr
    split
    · exact (h.route hr).removeEntry
    · exact (h.route hr).giveMove.note

theorem carryAll : ∀ {refs : List Nat} {y : Yard}, y.Agrees .tight → (carryAll env refs y).2.Agrees .tight
  | [], _, h => h
  | _ :: rest, _, h => carryAll (refs := rest) h.carryOne

theorem closeTip {n} (h : y.Agrees .tight) : (y.closeTip env n).Agrees .tight := by
  obtain ⟨notes, hclosed⟩ := y.closeTip_eq env n
  rw [hclosed]
  exact { h with }

theorem closeAll : ∀ {ds : List Nat} {y : Yard}, y.Agrees .tight → (closeAll env ds y).2.Agrees .tight
  | [], _, h => h
  | _ :: _, _, h => by
    unfold Machine.closeAll
    split
    · exact closeAll h
    · exact closeAll h.close

/-- An empty pool with no mover BUSY, R163. -/
theorem clearNight (h : y.Agrees .tight) : y.clearNight.Agrees .tight := by
  obtain ⟨doors, movers, lanes, hclear, -, hoff, -⟩ := y.clearNight_eq
  have hidle (m id : Nat) : (movers.at Mover.reset m).state ≠ .busy id := by
    rw [hoff, Mover.sentOff_state]
    nofun
  rw [hclear]
  exact { h with
    tasksRise := rfl
    room := Nat.zero_le _
    queueOnce := fun _ => List.nodup_nil
    queue := nofun
    issuedOnce := List.nodup_nil
    issued := nofun
    waits := nofun
    held := nofun
    busy := fun hb => absurd hb (hidle _ _)
    unissued := nofun
    freed := nofun }

/-- R163 step 6: the records kept stand under their own references, with their labels. -/
theorem withKeptPallets (h : y.Agrees .tight) : Yard.Agrees .tight { y with pallets := ⟨y.keptPallets⟩ } := by
  refine h.withPallets (Tab.wf_map _ (fun c : Nat × Pallet => c.2.carried)
    (Tab.wf_filter _ (fun c : Nat × Pallet => !c.2.freedAtClose) h.palletsRise)) fun ref q hq => ?_
  rw [Floor.keptPallets_get h.palletsRise] at hq
  obtain ⟨p, hp, hkept⟩ := Option.bind_eq_some_iff.mp hq
  refine ⟨p, hp, ?_⟩
  split at hkept
  · cases hkept
    rfl
  · cases hkept

end Yard.Agrees

/-! ## Labels and pool: the scan -/

theorem Yard.tasks_tryPlace {y z : Yard} {env : Env} {d ref : Nat} (hz : y.tryPlace env d ref = some z) :
    z.tasks = y.tasks := by
  obtain ⟨pos, -, rfl⟩ := Yard.tryPlace_some hz
  unfold Yard.place
  split <;> rfl

theorem Yard.tasks_routeOver {y : Yard} {env : Env} {stand : Stand} {ref : Nat} : ∀ {ds : List Nat} {r : Routed},
    y.routeOver env stand ref ds = some r → r.yard.tasks = y.tasks
  | [], _, hr => by cases hr
  | d :: rest, r, hr => by
    unfold Yard.routeOver at hr
    split at hr
    · exact Yard.tasks_routeOver hr
    · split at hr
      · rename_i hz; cases hr; exact Yard.tasks_tryPlace hz
      · exact Yard.tasks_routeOver hr

/-- Deciding on a piece creates no task, R68. -/
theorem Yard.tasks_placePiece {y : Yard} {env : Env} {sc : Scan} {ref : Nat} : (y.placePiece env sc ref).2.tasks = y.tasks := by
  unfold Yard.placePiece
  split
  · rfl
  · split
    · rfl
    · rename_i hr
      split
      · exact Yard.tasks_routeOver hr
      · exact Yard.tasks_routeOver hr

theorem tasks_placePieces {env : Env} {sc : Scan} : ∀ {refs : List Nat} {y : Yard},
    (placePieces env sc refs y).2.tasks = y.tasks
  | [], _ => rfl
  | _ :: rest, _ => (tasks_placePieces (refs := rest)).trans Yard.tasks_placePiece

theorem Scan.mover_task (sc : Scan) (k : MoveKey) (refs : List Nat) : (sc.task k refs).mover = none := by
  cases k <;> rfl

/-- A label that names no record is carried by none, R55. -/
theorem Floor.label_ne_of_refOf {f : Floor} {label ref : Nat} {p : Pallet} (hnone : f.refOf label = none)
    (hp : f.pallets.get ref = some p) : p.label ≠ label := by
  rw [Floor.refOf, Option.map_eq_none_iff, List.find?_eq_none] at hnone
  simpa using hnone _ (Tab.mem_of_get hp)

/-- A label names a live record, R55. -/
theorem Floor.get_of_refOf {f : Floor} {label ref : Nat} (h : f.refOf label = some ref) :
    ∃ p, f.pallets.get ref = some p := by
  obtain ⟨c, hc, rfl⟩ := Option.map_eq_some_iff.mp h
  exact Option.isSome_iff_exists.mp (Tab.has_of_mem_keys (List.mem_map_of_mem (List.mem_of_find?_eq_some hc)))

namespace Yard.Agrees

variable {y : Yard} {env : Env} {sc : Scan}

theorem placePiece {ref} (h : y.Agrees .tight) : (y.placePiece env sc ref).2.Agrees .tight := by
  unfold Yard.placePiece
  split
  · exact h.modPallet
  · split
    · exact h.modPallet
    · rename_i hr
      split
      · exact (h.route hr).setLane
      · exact h.route hr

theorem placePieces : ∀ {refs : List Nat} {y : Yard}, y.Agrees .tight → (placePieces env sc refs y).2.Agrees .tight
  | [], _, h => h
  | _ :: rest, _, h => placePieces (refs := rest) h.placePiece

/-- The pool has room for every group, R93. -/
theorem createGroups : ∀ {gs : List (MoveKey × List Nat)} {y : Yard}, y.Agrees .tight →
    y.tasks.size + gs.length ≤ 1024 → (createGroups sc gs y).2.Agrees .tight
  | [], _, h, _ => h
  | (k, refs) :: rest, y, h, hroom => by
    rw [List.length_cons] at hroom
    have hsize : (y.addTask (sc.task k refs)).tasks.size = y.tasks.size + 1 := Tab.size_put_new (Floor.get_allocId h.room)
    exact createGroups (gs := rest) (h.addTask (by omega) (sc.mover_task k refs)) (by omega)

theorem takeScan {flag refs before} (h : y.Agrees .tight) :
    (y.takeScan env sc flag refs before).Gives (Yard.Agrees .tight) := by
  unfold Yard.takeScan
  simp only
  split
  · exact .refused
  · rename_i hroom
    refine .done (foldl_keeps evaluate (setTip (createGroups h.placePieces ?_))).watch
    rw [tasks_placePieces]
    exact Nat.le_of_not_lt hroom

/-- Records of labels that no record carries, each once, R55. -/
theorem createRecords {cons} : ∀ {labels : List Nat} {y : Yard}, y.Agrees .tight → labels.Nodup →
    (∀ label ∈ labels, ∀ ref p, y.pallets.get ref = some p → p.label ≠ label) →
    (createRecords env sc cons labels y).2.Agrees .tight
  | [], _, h, _, _ => h
  | label :: rest, y, h, hnodup, hnew => by
    obtain ⟨hlabel, hrest⟩ := List.nodup_cons.mp hnodup
    refine createRecords (labels := rest) (h.setPallet fun a q hq heq =>
      absurd heq (hnew label List.mem_cons_self a q hq)) hrest fun other hother a q hq => ?_
    by_cases ha : a = lowestFree 0 y.pallets.cells
    · rw [ha] at hq
      cases (Tab.get_put_same ..).symm.trans hq
      exact fun heq : label = other => hlabel (heq ▸ hother)
    · exact hnew other (List.mem_cons_of_mem _ hother) a q ((Tab.get_put_other _ _ ha).symm.trans hq)

theorem scanFresh (h : y.Agrees .tight) (hnew : ∀ label ∈ sc.labels, y.refOf label = none) :
    (y.scanFresh env sc).Gives (Yard.Agrees .tight) :=
  .orRefused (h.createRecords List.nodup_range' fun label hl _ _ hp => Floor.label_ne_of_refOf (hnew label hl) hp).takeScan

theorem rescan {label ref} (h : y.Agrees .tight) (hlive : y.refOf label = some ref) :
    (y.rescan env sc ref).Gives (Yard.Agrees .tight) := by
  obtain ⟨p, hp⟩ := Floor.get_of_refOf hlive
  unfold Yard.rescan
  simp only
  split
  · exact takeScan (h.setPallet fun a q hq heq => h.labels hq hp (heq.trans (by rw [Floor.pallet_of_get hp]; rfl)))
  · exact .done h

end Yard.Agrees

/-! ## Labels and pool: failures -/

namespace Yard.Agrees

variable {y : Yard} {env : Env}

theorem endTask {id t late} (h : y.Agrees .tight) : (y.endTask env id t late).Agrees .tight := by
  have hended : ((y.freeMover id .idle).leavePool env id).Agrees .tight :=
    (h.freeMover_apart (st := .idle) fun _ => nofun).leavePool_apart
  unfold Yard.endTask
  simp only
  split
  · exact hended
  · exact hended.toldEnded

/-- A task that no mover holds may lose its mover, and still be in no queue. -/
theorem unissue {id : Nat} {g : Task → Task} (h : y.Agrees (.apart id))
    (hg : ∀ t, ((g t).mover = t.mover ∨ (g t).mover = none) ∧ (g t).lastMover = t.lastMover ∧ (g t).level = t.level) :
    (y.modTask id g).Agrees (.apart id) := by
  have hother {k : Nat} (hk : k ≠ id) : (y.tasks.modify id g).get k = y.tasks.get k := Tab.get_modify_other _ _ hk
  have hback {u : Task} (hu : (y.tasks.modify id g).get id = some u) : ∃ t, y.tasks.get id = some t ∧ u = g t := by
    rw [Tab.get_modify_same] at hu
    obtain ⟨t, ht, rfl⟩ := Option.map_eq_some_iff.mp hu
    exact ⟨t, ht, rfl⟩
  have hforth {t : Task} (ht : y.tasks.get id = some t) : (y.tasks.modify id g).get id = some (g t) := by
    rw [Tab.get_modify_same, ht]
    rfl
  have hlast {t : Task} (ht : y.tasks.get id = some t) (hm : t.mover ≠ none) : (g t).lastMover ≠ none := by
    obtain ⟨m, hm⟩ := Option.ne_none_iff_exists'.mp hm
    rw [(hg t).2.1, (h.held ht hm).2]
    nofun
  refine { h with tasksRise := Tab.wf_modify _ _ _ h.tasksRise, room := (Tab.size_modify h.tasksRise).trans_le h.room,
                  queue := ?queue, issued := ?issued, waits := ?waits, held := ?held, busy := ?busy, unissued := nofun }
  case queue =>
    intro level k hk
    obtain ⟨t, ht, hm, hl⟩ := h.queue hk
    by_cases hkid : k = id
    · subst hkid
      obtain ⟨hmover, -, hlevel⟩ := hg t
      exact ⟨_, hforth ht, hmover.elim (fun he => he.trans hm) (fun he => he), hlevel.trans hl⟩
    · exact ⟨t, (hother hkid).trans ht, hm, hl⟩
  case issued =>
    intro k hk
    obtain ⟨t, ht, hstands⟩ := h.issued hk
    by_cases hkid : k = id
    · subst hkid
      refine ⟨_, hforth ht, .inr ⟨rfl, ?_⟩⟩
      rcases hstands with hm | hx
      · exact hlast ht hm
      · rw [(hg t).2.1]
        exact hx.2
    · exact ⟨t, (hother hkid).trans ht, hstands⟩
  case waits =>
    intro k u hu hm
    by_cases hkid : k = id
    · subst hkid
      obtain ⟨t, ht, rfl⟩ := hback hu
      by_cases hmt : t.mover = none
      · rw [Slack.excuses, (hg t).2.1, (hg t).2.2]
        exact h.waits ht hmt
      · exact .inr ⟨rfl, hlast ht hmt⟩
    · exact h.waits ((hother hkid).symm.trans hu) hm
  case held =>
    intro k u m hu hm
    by_cases hkid : k = id
    · subst hkid
      obtain ⟨t, ht, rfl⟩ := hback hu
      rw [(hg t).2.1]
      rcases (hg t).1 with he | he
      · exact h.held ht (he.symm.trans hm)
      · cases he.symm.trans hm
    · exact h.held ((hother hkid).symm.trans hu) hm
  case busy =>
    intro m k hb
    obtain ⟨t, ht, hm⟩ := h.busy hb
    exact ⟨t, (hother fun hkid => h.freed rfl (hkid ▸ hb)).trans ht, hm⟩

/-- The end of a failed task's issue, R106: in case (b) no mover holds the task. -/
theorem endIssue {id t late} (h : y.Agrees .tight) (hlate : late = true → ∀ u, y.tasks.get id = some u → u.mover = none) :
    (y.endIssue env id t late).Agrees (.apart id) := by
  unfold Yard.endIssue
  split
  · exact h.loosen (h.free_of_unissued (hlate ‹_›))
  · refine toldEnded ((h.freeMover_apart (st := .idle) fun _ => nofun).unissue fun t => ⟨?_, rfl, rfl⟩)
    simp only
    split
    · exact .inr rfl
    · exact .inl rfl

theorem notFoundPallet {t ref} (h : y.Agrees .tight) : (y.notFoundPallet env t ref).Agrees .tight := by
  unfold Yard.notFoundPallet
  simp only
  split
  · exact h.removeEntry.takeOffTip.takeOffRelocate.unexpectAt.goMissing
  · exact h.removeEntry.takeOffTip.takeOffRelocate.leaveLoc.goMissing

theorem failNotFound {id t} (h : y.Agrees (.apart id)) : (y.failNotFound env id t).Agrees .tight :=
  foldl_keeps notFoundPallet h.leavePool_apart

theorem damagedPallet {x : Slack} {t ref} (h : y.Agrees x) : (y.damagedPallet env t ref).Agrees x := by
  unfold Yard.damagedPallet
  simp only
  split
  · exact h.removeEntry.unexpectAt.modPallet.askTask.note
  · exact h.removeEntry.modPallet.askTask.note

/-- The task leaves or returns; a new task under its id, which has no last mover, stands in its queue, R109. -/
theorem settleDamaged {id} (h : y.Agrees (.apart id)) : (y.settleDamaged env id).Agrees .tight := by
  unfold Yard.settleDamaged
  split
  · rename_i hnone
    refine h.tighten fun i t hi ht => ?_
    cases hi
    cases hnone.symm.trans ht
  · rename_i t ht
    split
    · rename_i hlast
      refine h.tighten fun i u hi hu => ?_
      cases hi
      cases ht.symm.trans hu
      exact Option.isNone_iff_eq_none.mp hlast
    · split
      · exact h.leavePool_apart
      · exact h.returnTask

theorem failTask {id t reason} (h : y.Agrees (.apart id)) : (y.failTask env id t reason).2.Agrees .tight := by
  unfold Yard.failTask
  split
  · exact h.returnTask
  · exact h.failNotFound
  · split
    · exact h.modTask.damagedPallet.settleDamaged
    · exact h.failNotFound

end Yard.Agrees

end Sys2Proof.Machine

namespace Sys2Proof.Machine

/-! ## Labels and pool: plan store and works of a minute -/

/-- Labels and pool agree on the floor of a run. -/
def Run.Agrees (r : Run) : Prop := r.yard.Agrees .tight

namespace Run.Agrees

variable {r : Run}

theorem withClock {c} (h : r.Agrees) : Run.Agrees { r with clock := c } := h

theorem withWork {w} (h : r.Agrees) : Run.Agrees { r with work := w } := h

theorem onYard {g} (h : r.Agrees) (hg : ∀ {env : Env} {y : Yard}, y.Agrees .tight → (g env y).Agrees .tight) :
    (r.onYard g).Agrees := hg h

theorem draw {n} (h : r.Agrees) : (r.draw n).2.Agrees := by
  unfold Run.Agrees
  rw [Run.draw_yard]
  exact h

theorem takeEntry {cause e} (h : r.Agrees) : (r.takeEntry cause e).Agrees := by
  unfold Run.takeEntry
  simp only
  split
  · exact h.note
  · exact h.note.applyEntry

theorem takeEntries {cause} : ∀ {es : List PlanEntry} {r : Run}, r.Agrees → (takeEntries cause es r).2.Agrees
  | [], _, h => h
  | _ :: es, _, h => takeEntries (es := es) h.takeEntry

theorem updatePoint {cause} (h : r.Agrees) : (r.updatePoint cause).2.Agrees := by
  have taken := takeEntries (cause := cause) (es := r.plan.shadow.entries)
    (r := { r with plan := { r.plan with shadow := .empty } }) h
  unfold Run.updatePoint
  simp only
  split
  · exact taken.onYard Yard.Agrees.examine
  · exact taken

theorem boundaryUpdate (h : r.Agrees) : r.boundaryUpdate.Agrees := by
  unfold Run.boundaryUpdate
  split
  · exact h.updatePoint
  · exact h

theorem boundaryRelease (h : r.Agrees) : r.boundaryRelease.Agrees := h.onYard Yard.Agrees.waveRelease

theorem takeBoundary {m} (h : r.Agrees) : (r.takeBoundary m).Agrees := by
  have noted {c n} : ({ r with clock := c }.onYard fun env y => y.note env c.wave n).Agrees :=
    h.withClock.onYard Yard.Agrees.note
  unfold Run.takeBoundary
  simp only
  split
  · split
    · exact noted.draw.boundaryUpdate.boundaryRelease
    · exact noted.draw.boundaryRelease.boundaryUpdate
  · exact noted.boundaryUpdate.boundaryRelease

theorem testBoundary {since} (h : r.Agrees) : (r.testBoundary since).Agrees := by
  unfold Run.testBoundary
  split
  · exact h.takeBoundary
  · exact h

theorem reachEnd (h : r.Agrees) : r.reachEnd.Agrees := h.withClock.onYard Yard.Agrees.endCutOff

theorem endChangeovers : ∀ {n : Nat} {r : Run}, r.Agrees → (r.endChangeovers n).Agrees
  | 0, _, h => h
  | n + 1, r, h => by
    unfold Run.endChangeovers
    split
    · exact h
    · exact endChangeovers (h.draw.onYard Yard.Agrees.endChangeover)

theorem doItem {i} (h : r.Agrees) : (r.doItem i).Agrees := by
  cases i <;> simp only [Run.doItem]
  case departures => exact h.onYard Yard.Agrees.examine
  case expiry => exact h.onYard (foldl_keeps Yard.Agrees.expireWatched)
  case doors => exact h.endChangeovers
  case wave => exact h.testBoundary
  case syncUpdate => exact h.updatePoint
  case endOfClock => exact h.reachEnd

theorem settleItems : ∀ {n : Nat} {r : Run}, r.Agrees → (r.settleItems n).Agrees
  | 0, _, h => h.withWork
  | n + 1, r, h => by
    unfold Run.settleItems
    split
    · exact h.withWork
    · exact settleItems h.draw.doItem.withWork

theorem settle (h : r.Agrees) : r.settle.Agrees := by
  unfold Run.settle
  simp only
  split
  · exact h.doItem.withWork.settleItems
  · exact h.settleItems

theorem tick (h : r.Agrees) : r.tick.Agrees := h.withClock.withWork

theorem second (h : r.Agrees) : r.second.Agrees := by
  unfold Run.second
  split
  · exact h.withClock
  · exact h.tick

theorem afterEvent {taken rest} (h : r.Agrees) : (r.afterEvent taken rest).Agrees := h.withWork

theorem eventStep {d ev} (h : r.Agrees) : (r.eventStep d ev).Agrees := by
  unfold Run.eventStep
  split
  · exact (h.onYard Yard.Agrees.takeEvent).afterEvent
  · exact h

theorem expiryStep {id} (h : r.Agrees) : (r.expiryStep id).Agrees := by
  unfold Run.expiryStep
  split
  · exact h
  · split
    · exact (h.onYard Yard.Agrees.expireWatched).afterEvent
    · exact h

theorem doorStep {n} (h : r.Agrees) : (r.doorStep n).Agrees := by
  unfold Run.doorStep
  split
  · exact (h.onYard Yard.Agrees.endChangeover).afterEvent
  · exact h

theorem waveStep (h : r.Agrees) : r.waveStep.Agrees := by
  unfold Run.waveStep
  split
  · exact h.testBoundary.afterEvent
  · exact h

theorem endStep (h : r.Agrees) : r.endStep.Agrees := by
  unfold Run.endStep
  split
  · exact h.reachEnd.afterEvent
  · exact h

theorem write {e} (h : r.Agrees) : (r.write e).2.Agrees := by
  have written : Run.Agrees { r with plan := { r.plan with shadow := r.plan.shadow.write e } } := h
  unfold Run.write
  simp only
  split
  · exact written.updatePoint
  · exact written

end Run.Agrees

/-! ## Labels and pool: answers of requests -/

/-- A report is judged by the record of its task, R102 step 5: in case (b) no mover holds the task. -/
theorem Answer.Gives.onReport_judged {body : List Byte} {env : Env} {y : Yard} {length : Nat} {fieldsOk : Bool}
    {k : Nat → Nat → Task → Bool → Answer Yard} {P : Yard → Prop}
    (h : ∀ id m t late, y.tasks.get id = some t → (late = true → t.mover = none) → (k id m t late).Gives P) :
    (Machine.onReport body length fieldsOk env y k).Gives P := by
  refine .orRefused (.orRefused (.needsNight ?_))
  split
  · exact .refused
  · rename_i t ht
    split
    · exact .refused
    · exact h _ _ t false ht nofun
    · rename_i hlate
      refine h _ _ t true ht fun _ => ?_
      unfold Task.judge at hlate
      split at hlate
      · split at hlate <;> cases hlate
      · assumption

namespace Yard.Agrees

variable {y : Yard} {env : Env} {body : List Byte}

/-! ### Departure control and door control -/

theorem answerCallNow (h : y.Agrees .tight) : (answerCallNow body env y).Gives (Yard.Agrees .tight) :=
  .onDeparture fun _ _ => .orRefused (.done h.call)

theorem answerCutNow (h : y.Agrees .tight) : (answerCutNow body env y).Gives (Yard.Agrees .tight) :=
  .onDeparture fun _ _ => .orRefused (.done h.cutOff.watch)

theorem answerHoldLoad (h : y.Agrees .tight) : (answerHoldLoad body env y).Gives (Yard.Agrees .tight) :=
  .onDeparture fun _ _ => .orRefused (.done h.modDep)

theorem answerFreeLoad (h : y.Agrees .tight) : (answerFreeLoad body env y).Gives (Yard.Agrees .tight) :=
  .onDeparture fun _ _ => .orRefused (.done (ite h.modDep.evaluate h.modDep))

theorem answerAbortLoad (h : y.Agrees .tight) : (answerAbortLoad body env y).Gives (Yard.Agrees .tight) :=
  .onDeparture fun _ _ => .orRefused (.done
    (foldl_keeps (fun hz => hz.withdrawRelease.shiftStatus) h.modDep).modDep.stopTest)

theorem answerResumeLoad (h : y.Agrees .tight) : (answerResumeLoad body env y).Gives (Yard.Agrees .tight) :=
  .onDeparture fun _ _ => .orRefused (.done h.modDep.evaluate)

theorem answerDepart (h : y.Agrees .tight) : (answerDepart body env y).Gives (Yard.Agrees .tight) := by
  refine .onDeparture fun d e => ?_
  have closed : (if (y.departure d).doorTaken then ((y.close env d).2.watch env y.toFloor).endIfDue env e.door
      else (y.close env d).2.watch env y.toFloor).Agrees .tight := ite h.close.watch.endIfDue h.close.watch
  split
  iterate 3 exact .refused
  all_goals exact .done closed

theorem answerGetDeparture (h : y.Agrees .tight) : (answerGetDeparture body env y).Gives (Yard.Agrees .tight) :=
  .onDeparture fun _ _ => .done h

theorem answerDoorFault (h : y.Agrees .tight) : (answerDoorFault body env y).Gives (Yard.Agrees .tight) :=
  .numbered fun _ => .done h.setDoor

theorem answerDoorClear (h : y.Agrees .tight) : (answerDoorClear body env y).Gives (Yard.Agrees .tight) :=
  .numbered fun _ => .done h.setDoor

theorem answerDoorResume (h : y.Agrees .tight) : (answerDoorResume body env y).Gives (Yard.Agrees .tight) :=
  .numbered fun _ => .orRefused (.done h.releaseDoor)

theorem answerGetDoor (h : y.Agrees .tight) : (answerGetDoor body env y).Gives (Yard.Agrees .tight) :=
  .numbered fun _ => .done h

/-! ### Intake -/

theorem answerTipOpen (h : y.Agrees .tight) : (answerTipOpen body env y).Gives (Yard.Agrees .tight) :=
  .orRefused (.orRefused (.orRefused (.orRefused (.done h.setDoor.setTip))))

theorem answerTipClose (h : y.Agrees .tight) : (answerTipClose body env y).Gives (Yard.Agrees .tight) :=
  .numbered fun _ => .needsNight (.orRefused (.done h.closeTip))

/-- A scan writes a new record for a label only where it names none, R62, R63. -/
theorem answerPalletIn (h : y.Agrees .tight) : (answerPalletIn body env y).Gives (Yard.Agrees .tight) := by
  refine .orRefused ?_
  split
  · exact .refused
  · rename_i sc _
    refine .orRefused (.orRefused ?_)
    split
    · rename_i hone
      split
      · exact h.rescan ‹_›
      · refine h.scanFresh fun label hl => ?_
        rw [Scan.labels, hone, List.range'_one, List.mem_singleton] at hl
        rw [hl]
        assumption
    · split
      · exact .refused
      · rename_i hany
        refine h.scanFresh fun label hl => Option.not_isSome_iff_eq_none.mp fun hsome => hany ?_
        exact List.any_eq_true.mpr ⟨label, hl, hsome⟩

theorem answerBumpPallet (h : y.Agrees .tight) : (answerBumpPallet body env y).Gives (Yard.Agrees .tight) :=
  .orRefused (.needsNight (.labelled fun _ => .orRefused (.done h.removeEntry.takeOffTip.bindHold.watch)))

theorem answerReleasePallet (h : y.Agrees .tight) : (answerReleasePallet body env y).Gives (Yard.Agrees .tight) :=
  .orRefused (.labelled fun _ => .orRefused (.done h.takeOffRelocate.leaveLoc.freePallet.watch))

theorem answerGetPallet (h : y.Agrees .tight) : (answerGetPallet body env y).Gives (Yard.Agrees .tight) :=
  .orRefused (.labelled fun _ => .done h)

/-! ### Lanes -/

theorem answerWatchLanes (h : y.Agrees .tight) : (answerWatchLanes body env y).Gives (Yard.Agrees .tight) := by
  refine .orRefused (.orRefused ?_)
  split
  · exact .done (foldl_keeps setLane h)
  · split
    · exact .done h.setLane
    · exact .refused

theorem answerAckAlert (h : y.Agrees .tight) : (answerAckAlert body env y).Gives (Yard.Agrees .tight) := by
  refine .numbered fun l => ?_
  split
  · exact .refused
  · exact .done h.setLane

theorem answerGetLane (h : y.Agrees .tight) : (answerGetLane body env y).Gives (Yard.Agrees .tight) := by
  refine .numbered fun l => ?_
  split
  · exact .done h
  · exact .refused

/-! ### Movers and tasks -/

theorem answerMoverOn (h : y.Agrees .tight) : (answerMoverOn body env y).Gives (Yard.Agrees .tight) := by
  refine .onMover fun m => ?_
  split
  · exact .refused
  · exact .refused
  · exact .done (h.setMover fun _ => nofun)

theorem answerMoverOff (h : y.Agrees .tight) : (answerMoverOff body env y).Gives (Yard.Agrees .tight) := by
  refine .onMover fun m => ?_
  split
  · exact .refused
  · exact .done (h.setMover fun _ => nofun)
  · exact .done (h.freeMover_apart (st := .off) fun _ => nofun).returnTask.watch

/-- The task that is issued comes from a queue, R100. -/
theorem unissued_of_nextTask {id : Nat} {t : Task} (h : y.Agrees .tight) (hnext : y.nextTask env = some id)
    (ht : y.tasks.get id = some t) : t.mover = none := by
  obtain ⟨level, -, hfind⟩ := List.exists_of_findSome?_eq_some hnext
  obtain ⟨u, hu, hm, -⟩ := h.queue (List.mem_of_find?_eq_some hfind)
  cases ht.symm.trans hu
  exact hm

theorem answerMoverReady (h : y.Agrees .tight) : (answerMoverReady body env y).Gives (Yard.Agrees .tight) := by
  refine .onMover fun m => ?_
  split
  · exact .refused
  · exact .refused
  · split
    · exact .done h
    · split
      · exact .done h
      · exact .done (h.issueTask fun _ => h.unissued_of_nextTask ‹_›)

theorem answerPostTask (h : y.Agrees .tight) : (answerPostTask body env y).Gives (Yard.Agrees .tight) := by
  refine .orRefused ?_
  split
  · refine .orRefused (.needsNight ?_)
    split
    · exact .refused
    · rename_i hr; exact .done (h.createTask rfl hr)
  · exact .refused

theorem answerDispatchHold (h : y.Agrees .tight) : (answerDispatchHold body env y).Gives (Yard.Agrees .tight) := by
  refine .orRefused ?_
  split
  · exact .refused
  · exact .done { h with }

theorem answerGetTask (h : y.Agrees .tight) : (answerGetTask body env y).Gives (Yard.Agrees .tight) := by
  refine .orRefused ?_
  split
  · exact .refused
  · exact .done h

theorem answerTaskDone (h : y.Agrees .tight) : (answerTaskDone body env y).Gives (Yard.Agrees .tight) :=
  .onReport fun _ _ _ _ => .orRefused (.done (ite h.recordLifts.endTask h.recordLifts).watch)

theorem answerTaskFail (h : y.Agrees .tight) : (answerTaskFail body env y).Gives (Yard.Agrees .tight) := by
  unfold Machine.answerTaskFail
  refine .onReport_judged fun id _ t late ht hlate => .done ((h.endIssue fun hl u hu => ?_).failTask).watch
  cases ht.symm.trans hu
  exact hlate hl

end Yard.Agrees

namespace Run.Agrees

variable {r : Run} {body : List Byte}

/-! ### Plan store and night -/

theorem answerSet {lengthOk entry} (h : r.Agrees) : (answerSet lengthOk entry r).Gives Run.Agrees := by
  refine .orRefused ?_
  split
  · exact .refused
  · exact .done h.write

theorem answerSetMethod (h : r.Agrees) : (answerSetMethod body r).Gives Run.Agrees := by
  refine .orRefused ?_
  split
  · exact .refused
  · exact .done h

theorem answerActivate (h : r.Agrees) : (answerActivate body r).Gives Run.Agrees := .orRefused (.done h.updatePoint)

theorem answerGetPlan (h : r.Agrees) : (answerGetPlan body r).Gives Run.Agrees := by
  refine .orRefused ?_
  split
  · exact .refused
  · split
    · split
      · exact .refused
      · exact .done h
    · exact .refused

theorem answerNightOpen (h : r.Agrees) : (answerNightOpen body r).Gives Run.Agrees :=
  .orRefused (.orRefused (.done (Yard.Agrees.ready h.updatePoint).carryAll.watch.examine))

theorem answerNightClose (h : r.Agrees) : (answerNightClose body r).Gives Run.Agrees := by
  have tipsClosed : (r.yard.tipping.foldl (fun z n => z.closeTip r.env n) r.yard).Agrees .tight :=
    foldl_keeps Yard.Agrees.closeTip h
  exact .orRefused (.orRefused (.done tipsClosed.closeAll.clearNight.withKeptPallets))

theorem answerClockSync (h : r.Agrees) : (answerClockSync body r).Gives Run.Agrees :=
  .orRefused (.orRefused (.orRefused (.orRefused (.orRefused (.done (settle h))))))

end Run.Agrees

/-! ## Labels and pool: the whole state -/

/-- Labels and pool agree on the floor. -/
def State.Agrees (s : State) : Prop := s.toRun.Agrees

/-- An empty floor agrees. -/
theorem State.agrees_fullReset {s : State} {atSpace : Bool} : (s.fullReset atSpace).Agrees where
  palletsRise := rfl
  tasksRise := rfl
  labels := nofun
  room := Nat.zero_le _
  queueOnce := fun _ => List.nodup_nil
  queue := nofun
  issuedOnce := List.nodup_nil
  issued := nofun
  waits := nofun
  held := nofun
  busy := nofun
  unissued := nofun
  freed := nofun

namespace State.Agrees

variable {s : State}

theorem withLink {l} (h : s.Agrees) : State.Agrees { s with link := l } := h

theorem absorb {r : Run} (h : r.Agrees) : (s.absorb r).Agrees := Yard.Agrees.lanesOnly h rfl

theorem onRun {g} (hg : ∀ {r : Run}, r.Agrees → (g r).Agrees) (h : s.Agrees) : (s.onRun g).Agrees := absorb (hg h)

theorem settled (h : s.Agrees) : s.settled.Agrees := by
  unfold State.settled
  split
  · exact h
  · exact h.onRun Run.Agrees.settle

theorem timed {g} (hg : ∀ {r : Run}, r.Agrees → (g r).Agrees) (h : s.Agrees) : (s.timed g).Agrees := by
  unfold State.timed
  simp only
  split
  · exact h.settled.onRun hg
  · exact h.settled

theorem taken {f u} (h : s.Agrees) (hu : s.taken f = some u) : u.Agrees := by
  obtain ⟨l, -, rfl⟩ := State.taken_cases hu
  exact settled (s := { s with link := l }) h

/-- A request keeps the agreement where its answer does, R171. -/
theorem takeRequest {kind tag body answer} (ha : ∀ {u : State}, u.Agrees → (answer u).Gives State.Agrees) (h : s.Agrees) :
    (takeRequest kind tag body answer s).Agrees := by
  cases hu : s.taken { kind := kind, tag := tag, body := body } with
  | none => rwa [takeRequest_none hu]
  | some u =>
    have hgives := ha (h.taken hu)
    cases hans : answer u with
    | refused c => rw [takeRequest_refused hu hans]; exact (h.taken hu).withLink
    | done result after => rw [takeRequest_done hu hans]; rw [hans] at hgives; exact hgives

/-- A request of clock or plan store. -/
theorem runRequest {kind tag body g} (h : s.Agrees) (hg : ∀ {r : Run}, r.Agrees → (g r).Gives Run.Agrees) :
    (Machine.takeRequest kind tag body (asRun g) s).Agrees := by
  refine h.takeRequest fun {u} hu => ?_
  have hgives := hg hu
  unfold asRun
  split
  · trivial
  · rename_i ha; rw [ha] at hgives; exact absorb hgives

/-- A request of the floor's blocks. -/
theorem yardRequest {kind tag body g} (h : s.Agrees)
    (hg : ∀ {env : Env} {y : Yard}, y.Agrees .tight → (g env y).Gives (Yard.Agrees .tight)) :
    (Machine.takeRequest kind tag body (asYard g) s).Agrees := by
  refine h.runRequest fun {r} hr => ?_
  have hgives := hg (env := r.env) hr
  split
  · trivial
  · rename_i ha; rw [ha] at hgives; exact hgives

theorem answerStatus {body} (h : s.Agrees) : (answerStatus body s).Gives State.Agrees := .orRefused (.done h)

theorem answerSetReports {body} (h : s.Agrees) : (answerSetReports body s).Gives State.Agrees := by
  refine .orRefused ?_
  split
  · exact .done h.withLink
  · trivial

/-- Every command has a next state, and its labels and pool agree. -/
theorem exec (c : Instr) (h : s.Agrees) : ∃ t, exec c s = .next t ∧ t.Agrees := by
  cases c with
  | powerOn => exact ⟨_, rfl, agrees_fullReset⟩
  | resetPin => exact ⟨_, rfl, agrees_fullReset⟩
  | longBreak => exact ⟨_, rfl, agrees_fullReset⟩
  | lineBreak => exact ⟨_, rfl, h.withLink⟩
  | stopBitError => exact ⟨_, rfl, h.withLink⟩
  | interCharacterTimeout => exact ⟨_, rfl, h.withLink⟩
  | frameReceived => exact ⟨_, rfl, h.withLink⟩
  | replyStart => exact ⟨_, rfl, h.withLink⟩
  | reportStart => exact ⟨_, rfl, h.withLink⟩
  | characterReceived => exact ⟨_, rfl, h.withLink⟩
  | receiveLineToMark => exact ⟨_, rfl, h.withLink⟩
  | frameSent => exact ⟨_, rfl, h.withLink⟩
  | unknownRequestKind kind tag body =>
    refine ⟨_, rfl, ?_⟩
    split
    · exact h
    · exact h.takeRequest fun _ => .refused
  | status => exact ⟨_, rfl, h.takeRequest answerStatus⟩
  | setReports => exact ⟨_, rfl, h.takeRequest answerSetReports⟩
  | nightOpen => exact ⟨_, rfl, h.runRequest Run.Agrees.answerNightOpen⟩
  | nightClose => exact ⟨_, rfl, h.runRequest Run.Agrees.answerNightClose⟩
  | clockSync => exact ⟨_, rfl, h.runRequest Run.Agrees.answerClockSync⟩
  | setNight => exact ⟨_, rfl, h.runRequest Run.Agrees.answerSet⟩
  | setProfile => exact ⟨_, rfl, h.runRequest Run.Agrees.answerSet⟩
  | setDoor => exact ⟨_, rfl, h.runRequest Run.Agrees.answerSet⟩
  | setLane => exact ⟨_, rfl, h.runRequest Run.Agrees.answerSet⟩
  | setDeparture => exact ⟨_, rfl, h.runRequest Run.Agrees.answerSet⟩
  | setRoute => exact ⟨_, rfl, h.runRequest Run.Agrees.answerSet⟩
  | setMethod => exact ⟨_, rfl, h.runRequest Run.Agrees.answerSetMethod⟩
  | activate => exact ⟨_, rfl, h.runRequest Run.Agrees.answerActivate⟩
  | getPlan => exact ⟨_, rfl, h.runRequest Run.Agrees.answerGetPlan⟩
  | tipOpen => exact ⟨_, rfl, h.yardRequest Yard.Agrees.answerTipOpen⟩
  | palletIn => exact ⟨_, rfl, h.yardRequest Yard.Agrees.answerPalletIn⟩
  | tipClose => exact ⟨_, rfl, h.yardRequest Yard.Agrees.answerTipClose⟩
  | bumpPallet => exact ⟨_, rfl, h.yardRequest Yard.Agrees.answerBumpPallet⟩
  | releasePallet => exact ⟨_, rfl, h.yardRequest Yard.Agrees.answerReleasePallet⟩
  | getPallet => exact ⟨_, rfl, h.yardRequest Yard.Agrees.answerGetPallet⟩
  | moverOn => exact ⟨_, rfl, h.yardRequest Yard.Agrees.answerMoverOn⟩
  | moverOff => exact ⟨_, rfl, h.yardRequest Yard.Agrees.answerMoverOff⟩
  | moverReady => exact ⟨_, rfl, h.yardRequest Yard.Agrees.answerMoverReady⟩
  | taskDone => exact ⟨_, rfl, h.yardRequest Yard.Agrees.answerTaskDone⟩
  | taskFail => exact ⟨_, rfl, h.yardRequest Yard.Agrees.answerTaskFail⟩
  | postTask => exact ⟨_, rfl, h.yardRequest Yard.Agrees.answerPostTask⟩
  | dispatchHold => exact ⟨_, rfl, h.yardRequest Yard.Agrees.answerDispatchHold⟩
  | getTask => exact ⟨_, rfl, h.yardRequest Yard.Agrees.answerGetTask⟩
  | callNow => exact ⟨_, rfl, h.yardRequest Yard.Agrees.answerCallNow⟩
  | cutNow => exact ⟨_, rfl, h.yardRequest Yard.Agrees.answerCutNow⟩
  | holdLoad => exact ⟨_, rfl, h.yardRequest Yard.Agrees.answerHoldLoad⟩
  | freeLoad => exact ⟨_, rfl, h.yardRequest Yard.Agrees.answerFreeLoad⟩
  | abortLoad => exact ⟨_, rfl, h.yardRequest Yard.Agrees.answerAbortLoad⟩
  | resumeLoad => exact ⟨_, rfl, h.yardRequest Yard.Agrees.answerResumeLoad⟩
  | depart => exact ⟨_, rfl, h.yardRequest Yard.Agrees.answerDepart⟩
  | getDeparture => exact ⟨_, rfl, h.yardRequest Yard.Agrees.answerGetDeparture⟩
  | doorFault => exact ⟨_, rfl, h.yardRequest Yard.Agrees.answerDoorFault⟩
  | doorClear => exact ⟨_, rfl, h.yardRequest Yard.Agrees.answerDoorClear⟩
  | doorResume => exact ⟨_, rfl, h.yardRequest Yard.Agrees.answerDoorResume⟩
  | getDoor => exact ⟨_, rfl, h.yardRequest Yard.Agrees.answerGetDoor⟩
  | watchLanes => exact ⟨_, rfl, h.yardRequest Yard.Agrees.answerWatchLanes⟩
  | ackAlert => exact ⟨_, rfl, h.yardRequest Yard.Agrees.answerAckAlert⟩
  | getLane => exact ⟨_, rfl, h.yardRequest Yard.Agrees.answerGetLane⟩
  | taskExpiry => exact ⟨_, rfl, h.onRun Run.Agrees.expiryStep⟩
  | callEvent => exact ⟨_, rfl, h.onRun Run.Agrees.eventStep⟩
  | lateMarginEvent => exact ⟨_, rfl, h.onRun Run.Agrees.eventStep⟩
  | cutEvent => exact ⟨_, rfl, h.onRun Run.Agrees.eventStep⟩
  | changeoverEnd => exact ⟨_, rfl, h.onRun Run.Agrees.doorStep⟩
  | waveBoundary => exact ⟨_, rfl, h.onRun Run.Agrees.waveStep⟩
  | endReached => exact ⟨_, rfl, h.onRun Run.Agrees.endStep⟩
  | minuteTick => exact ⟨_, rfl, h.timed Run.Agrees.tick⟩
  | timeBaseSecond => exact ⟨_, rfl, h.timed Run.Agrees.second⟩

end State.Agrees

end Sys2Proof.Machine

namespace Sys2Proof.Machine

/-! ## Labels and pool: the obligation's own terms -/

theorem hasRepeat_eq_false_iff {l : List Nat} : hasRepeat l = false ↔ l.Nodup := by
  induction l with
  | nil => simp [hasRepeat]
  | cons x rest ih => simp [hasRepeat, ih]

/-- A canonical table lists no number twice. -/
theorem Tab.nodup_keys {α : Type} {t : Tab α} (hwf : t.wf = true) : t.keys.Nodup := by
  have key : ∀ cells : List (Nat × α), cellsRise cells = true → (cells.map (·.1)).Nodup := by
    intro cells
    induction cells with
    | nil => exact fun _ => List.nodup_nil
    | cons c rest ih =>
      obtain ⟨j, v⟩ := c
      intro hrise
      rw [cellsRise_cons] at hrise
      refine List.nodup_cons.mpr ⟨fun hmem => ?_, ih (cellsRise_of_above hrise)⟩
      obtain ⟨c, hc, hj⟩ := List.mem_map.mp hmem
      exact absurd hj (lt_of_mem_risesAbove hrise hc).ne'
  exact key t.cells hwf

theorem Tab.mem_iff_get {α : Type} {t : Tab α} (hwf : t.wf = true) {k : Nat} {v : α} : (k, v) ∈ t.cells ↔ t.get k = some v :=
  ⟨fun h => Tab.get_of_mem hwf h, Tab.mem_of_get⟩

/-- No two live records have one label, R55. -/
theorem Floor.labelsDiffer_iff {f : Floor} (hwf : f.pallets.wf = true) : f.labelsDiffer = true ↔
    ∀ a b p q, f.pallets.get a = some p → f.pallets.get b = some q → p.label = q.label → a = b := by
  have hcells : f.pallets.cells.Nodup := List.Nodup.of_map _ (Tab.nodup_keys hwf)
  rw [Floor.labelsDiffer, Bool.not_eq_true', hasRepeat_eq_false_iff, List.nodup_map_iff_inj_on hcells]
  constructor
  · intro h a b p q hp hq heq
    exact congrArg Prod.fst (h _ (Tab.mem_of_get hp) _ (Tab.mem_of_get hq) heq)
  · rintro h ⟨a, p⟩ hp ⟨b, q⟩ hq heq
    rw [Tab.mem_iff_get hwf] at hp hq
    cases h a b p q hp hq heq
    cases hp.symm.trans hq
    rfl


/-- R92, R95, R97, R101, R110, read through the tables' `get`. -/
structure Floor.PoolAgrees (f : Floor) : Prop where
  room : f.tasks.size ≤ 1024
  queue : ∀ level q, f.queues.get level = some q →
    q.Nodup ∧ ∀ id ∈ q, ∃ t, f.tasks.get id = some t ∧ t.mover = none ∧ t.level = level
  issuedOnce : f.issued.Nodup
  issued : ∀ id ∈ f.issued, ∃ t, f.tasks.get id = some t ∧ t.mover ≠ none
  stands : ∀ id t, f.tasks.get id = some t →
    (t.mover = none → id ∈ f.queue t.level) ∧ ∀ m, t.mover = some m → id ∈ f.issued ∧ t.lastMover = some m
  busy : ∀ m r, f.movers.get m = some r → ∀ id, r.state = .busy id → ∃ t, f.tasks.get id = some t ∧ t.mover = some m

theorem Floor.poolAgrees_iff {f : Floor} (htasks : f.tasks.wf = true) (hqueues : f.queues.wf = true)
    (hmovers : f.movers.wf = true) : f.poolAgrees = true ↔ f.PoolAgrees := by
  simp only [Floor.poolAgrees, Bool.and_eq_true, decide_eq_true_eq, List.all_eq_true, Bool.not_eq_true',
    hasRepeat_eq_false_iff, Option.any_eq_true, beq_iff_eq, Prod.forall, Tab.mem_iff_get htasks, Tab.mem_iff_get hqueues,
    Tab.mem_iff_get hmovers, Task.isIssued, Option.isSome_iff_ne_none, Option.isSome_eq_false_iff, Option.isNone_iff_eq_none]
  constructor
  · rintro ⟨⟨⟨⟨⟨hroom, hqueue⟩, hissuedOnce⟩, hissued⟩, hstands⟩, hbusy⟩
    refine ⟨hroom, hqueue, hissuedOnce, hissued, fun id t ht => ?_, fun m r hr id hid => ?_⟩
    · have := hstands id t ht
      split at this
      · rename_i hm
        refine ⟨fun _ => by simpa using this, fun m hm' => ?_⟩
        cases hm.symm.trans hm'
      · rename_i m hm
        refine ⟨fun hm' => ?_, fun k hk => ?_⟩
        · cases hm.symm.trans hm'
        · cases hm.symm.trans hk
          simpa using this
    · have := hbusy m r hr
      rw [hid] at this
      simpa [Option.any_eq_true] using this
  · rintro ⟨hroom, hqueue, hissuedOnce, hissued, hstands, hbusy⟩
    refine ⟨⟨⟨⟨⟨hroom, hqueue⟩, hissuedOnce⟩, hissued⟩, fun id t ht => ?_⟩, fun m r hr => ?_⟩
    · obtain ⟨hwaits, hheld⟩ := hstands id t ht
      split
      · simpa using hwaits ‹_›
      · simpa using hheld _ ‹_›
    · split
      · simpa [Option.any_eq_true] using hbusy m r hr _ ‹_›
      · rfl
      · rfl

/-- What is read of a table with a default is its default or a listed value. -/
theorem Tab.at_cases {α : Type} (d : α) (t : Tab α) (k : Nat) : t.at d k = d ∨ t.get k = some (t.at d k) := by
  rw [Tab.at]
  cases t.get k with
  | none => exact .inl rfl
  | some v => exact .inr rfl

theorem Yard.agrees_of_floor {y : Yard} (hy : y.Rises) (hlabels : y.labelsDiffer = true) (hpool : y.poolAgrees = true) :
    y.Agrees .tight := by
  have hpool := (Floor.poolAgrees_iff hy.tasks hy.queues hy.movers).mp hpool
  have hqueue (level : Nat) := Tab.at_cases [] y.queues level
  refine
    { palletsRise := hy.pallets
      tasksRise := hy.tasks
      labels := (Floor.labelsDiffer_iff hy.pallets).mp hlabels _ _ _ _
      room := hpool.room
      queueOnce := fun level => ?queueOnce
      queue := fun {level id} hid => ?queue
      issuedOnce := hpool.issuedOnce
      issued := fun hid => (hpool.issued _ hid).imp fun _ ht => ht.imp_right .inl
      waits := fun ht hm => .inl ((hpool.stands _ _ ht).1 hm)
      held := fun ht hm => (hpool.stands _ _ ht).2 _ hm
      busy := fun {m id} hb => ?busy
      unissued := nofun
      freed := nofun }
  case queueOnce =>
    rcases hqueue level with hnil | hget
    · rw [Floor.queue, hnil]
      exact List.nodup_nil
    · exact (hpool.queue level _ hget).1
  case queue =>
    rcases hqueue level with hnil | hget
    · rw [Floor.queue, hnil] at hid
      cases hid
    · exact (hpool.queue level _ hget).2 id hid
  case busy =>
    rcases Tab.at_cases Mover.reset y.movers m with hreset | hget
    · rw [Floor.mover, hreset] at hb
      cases hb
    · exact hpool.busy m _ hget id hb

theorem Yard.Agrees.floor {y : Yard} (h : y.Agrees .tight) (hy : y.Rises) : y.labelsDiffer = true ∧ y.poolAgrees = true := by
  have hqueue {level q} (hq : y.queues.get level = some q) : y.queue level = q := by rw [Floor.queue, Tab.at, hq]; rfl
  have htight {id : Nat} {t : Task} : ¬Slack.tight.excuses id t := fun hx => nomatch hx.1
  refine ⟨(Floor.labelsDiffer_iff hy.pallets).mpr fun _ _ _ _ => h.labels,
    (Floor.poolAgrees_iff hy.tasks hy.queues hy.movers).mpr
    { room := h.room
      queue := fun level q hq => ?_
      issuedOnce := h.issuedOnce
      issued := fun id hid => (h.issued hid).imp fun _ ht => ht.imp_right fun hm => hm.resolve_right htight
      stands := fun id t ht => ⟨fun hm => (h.waits ht hm).resolve_right htight, fun m hm => h.held ht hm⟩
      busy := fun m r hr id hid => h.busy ?_ }⟩
  · rw [← hqueue hq]
    exact ⟨h.queueOnce level, fun id hid => h.queue hid⟩
  · rw [Floor.mover, Tab.at, hr]
    exact hid

/-- Settles O59: `Yard.Agrees` is kept by every command. While a request works on a task that stands apart from its queue,
`Slack` names that task, and it is back, or out of the pool, when the request ends. -/
theorem everyStepKeepsLabelsAndPool : Obligations.EveryStepKeepsLabelsAndPool := by
  intro s t hrises hlabels hpool hstep
  have hs : s.Agrees := Yard.agrees_of_floor (State.rises_iff.mpr hrises).yard hlabels hpool
  have ht : t.Agrees := by
    unfold step at hstep
    split at hstep
    · cases hstep; exact hs
    · rename_i c rest _
      obtain ⟨t', ht', hagrees⟩ := State.Agrees.exec (s := { s with pending := rest }) c hs
      cases ht'.symm.trans hstep
      exact hagrees
  exact Yard.Agrees.floor ht (State.rises_iff.mpr (everyStepKeepsTheTablesRising s t hrises hstep)).yard

end Sys2Proof.Machine

namespace Sys2Proof.Machine

/-! ## Tips, R60, R61 -/

/-- The fields of a TIP OPEN, Table 10-2. -/
theorem tipOpen_fields {expected : Nat} (n origin : Byte) (h : expected ≤ 65535) :
    ([n, origin] ++ le16 expected).length = 4 ∧ u8 ([n, origin] ++ le16 expected) 0 = n.toNat ∧
      u8 ([n, origin] ++ le16 expected) 1 = origin.toNat ∧ u16 ([n, origin] ++ le16 expected) 2 = expected :=
  ⟨rfl, rfl, rfl, u16_le16_append h []⟩

section

variable {n origin : Byte} {expected : Nat} {env : Env} {y : Yard} (h1 : 1 ≤ n.toNat) (h32 : n.toNat ≤ 32)
  (ho1 : 1 ≤ origin.toNat) (ho254 : origin.toNat ≤ 254) (hexpected : expected ≤ 65535) (hopen : env.isOpen = true)

include h1 h32 ho1 ho254 hexpected hopen

/-- TIP OPEN past the checks of its fields and of the night, R60. -/
theorem answerTipOpen_open : answerTipOpen ([n, origin] ++ le16 expected) env y =
    if (y.door n.toNat).underlying ≠ .inboundFree ∨ (y.door n.toNat).faulted = true then .refused .state
    else
      .done (le16 (min 255 expected))
        ((y.setDoor n.toNat { y.door n.toNat with underlying := .tipping }).setTip n.toNat
          { origin := origin.toNat, expected := min 255 expected, scanned := 0, openMinute := env.minute }) := by
  obtain ⟨hlen, hn, horigin, hex⟩ := tipOpen_fields n origin hexpected
  have hrange : ¬(n.toNat < 1 ∨ 32 < n.toNat ∨ origin.toNat < 1 ∨ 254 < origin.toNat) := by omega
  unfold answerTipOpen
  simp only [hlen, hn, horigin, hex, hrange, hopen]
  rfl

end

/-- Settles O25. -/
theorem tipOpenStartsATip : Obligations.TipOpenStartsATip := by
  intro s u tag n origin expected hu h1 h32 ho1 ho254 hexpected hopen
  have hanswer := answerTipOpen_open (env := u.toRun.env) (y := u.toRun.yard) h1 h32 ho1 ho254 hexpected hopen
  refine ⟨fun hfree hsound => ?taken, fun hnot => ?refused⟩
  case taken =>
    have hfit := not_or.mpr ⟨not_not.mpr hfree, ne_true_of_eq_false hsound⟩
    exact congrArg Host.Outcome.next (takeRequest_asYard hu (hanswer.trans (if_neg hfit)))
  case refused => exact congrArg Host.Outcome.next (takeRequest_asYard_refused hu (hanswer.trans (if_pos hnot)))

/-- A TIP NOTE is queued exactly where the counts differ, R61. -/
theorem Yard.closeTip_counts {y : Yard} {env : Env} {n : Nat} {t : Tip} (ht : y.tip n = t) :
    y.closeTip env n =
      { y with
        doors := y.doors.set Door.reset n { y.door n with underlying := .inboundFree }
        notes := y.notes ++
          if t.scanned = t.expected then []
          else [{ minute := env.minute, object := n, droppedBefore := 0
                  note := .tip (decide (t.expected < t.scanned)) t.origin t.expected t.scanned }] } := by
  unfold Yard.closeTip
  simp only [ht]
  rcases Nat.lt_trichotomy t.scanned t.expected with hless | hsame | hmore
  · rw [if_pos hless, if_neg hless.ne, decide_eq_false hless.not_gt]
    rfl
  · simp only [hsame, lt_irrefl, if_true, if_false, List.append_nil]
    rfl
  · rw [if_neg hmore.not_gt, if_pos hmore, if_neg hmore.ne', decide_eq_true hmore]
    rfl

/-- Settles O26. -/
theorem tipCloseReportsADifference : Obligations.TipCloseReportsADifference := by
  intro s u tag n hu h1 h32 hopen
  have hanswer : answerTipClose [n] u.toRun.env u.toRun.yard =
      if (u.floor.door n.toNat).underlying ≠ .tipping then .refused .state
      else
        .done (le8 (u.floor.tip n.toNat).origin ++ le16 (u.floor.tip n.toNat).expected ++
          le16 (u.floor.tip n.toNat).scanned) (u.toRun.yard.closeTip u.toRun.env n.toNat) := by
    rw [answerTipClose, numbered_in h1 h32, needsNight, if_pos (by exact hopen)]
    rfl
  refine ⟨fun htipping t ht => ?taken, fun hnot => ?refused⟩
  case taken =>
    rw [if_neg (not_not.mpr htipping), Yard.closeTip_counts (y := u.toRun.yard) ht, ht] at hanswer
    exact congrArg Host.Outcome.next (takeRequest_asYard hu hanswer)
  case refused => exact congrArg Host.Outcome.next (takeRequest_asYard_refused hu (hanswer.trans (if_pos hnot)))

/-! ## Scans of live labels, R62, R63 -/

section

variable {body : List Byte} {sc : Scan} {env : Env} {y : Yard} (hlen : body.length = 16) (hzero : u8 body 9 = 0)
  (hscan : readScan body = some sc) (hopen : env.isOpen = true)

include hlen hzero hscan hopen

/-- No scan without a tip, R62. -/
theorem answerPalletIn_noTip (htip : (y.door sc.door).underlying ≠ .tipping) :
    answerPalletIn body env y = .refused .state := by
  unfold answerPalletIn
  rw [if_neg (by simp [hlen, hzero]), hscan]
  simp [hopen, htip]

/-- A rescan of a record that is not MISSING only reports, R63. -/
theorem answerPalletIn_rescan {ref : Nat} (htip : (y.door sc.door).underlying = .tipping) (hone : sc.pieces = 1)
    (hlive : y.refOf sc.first = some ref) (hstate : (y.pallet ref).state ≠ .missing) :
    answerPalletIn body env y = .done ([2#8] ++ le8 (y.pallet ref).state.code ++ optLocBytes (y.pallet ref).loc ++
      opt8 (y.pallet ref).dep) y := by
  unfold answerPalletIn
  rw [if_neg (by simp [hlen, hzero]), hscan]
  simp only [hopen, htip, hone, hlive, Yard.rescan, if_neg hstate]
  rfl

/-- Several pieces, one of them live, R62. -/
theorem answerPalletIn_duplicate {k : Nat} (htip : (y.door sc.door).underlying = .tipping) (hmany : sc.pieces ≠ 1)
    (hk : k < sc.pieces) (hlive : (y.refOf (sc.first + k)).isSome = true) :
    answerPalletIn body env y = .refused .duplicate := by
  have hany : (sc.labels.any fun label => (y.refOf label).isSome) = true :=
    List.any_eq_true.mpr ⟨_, List.mem_range'.mpr ⟨k, hk, by rw [one_mul]⟩, hlive⟩
  unfold answerPalletIn
  rw [if_neg (by simp [hlen, hzero]), hscan]
  simp [hopen, htip, hmany, hany]

end

/-- Settles O28. -/
theorem rescanAndDuplicateChangeNothing : Obligations.RescanAndDuplicateChangeNothing := by
  intro s u tag body sc hu hlen hzero hscan hopen
  refine ⟨fun htip => ?noTip, fun htip => ⟨fun ref hone hlive hstate => ?rescan, fun k hmany hk hlive => ?duplicate⟩⟩
  case noTip =>
    exact congrArg Host.Outcome.next (takeRequest_asYard_refused hu
      (answerPalletIn_noTip (env := u.toRun.env) (y := u.toRun.yard) hlen hzero hscan hopen htip))
  case rescan =>
    exact congrArg Host.Outcome.next (takeRequest_reads hu
      (answerPalletIn_rescan (env := u.toRun.env) (y := u.toRun.yard) hlen hzero hscan hopen htip hone hlive hstate))
  case duplicate =>
    exact congrArg Host.Outcome.next (takeRequest_asYard_refused hu
      (answerPalletIn_duplicate (env := u.toRun.env) (y := u.toRun.yard) hlen hzero hscan hopen htip hmany hk hlive))

/-! ## BUMP PALLET, R74 -/

/-- The floor on which the pallet `p` on top of its stack on departure `d` is HELD in lane `l`, R74. -/
def Yard.bumped (y : Yard) (d ref pos l : Nat) (pr : Profile) (p : Pallet) : Yard :=
  { y with
    decks := y.decks.put d ((y.deck d).pull pr pos ref p.weight)
    pallets := y.pallets.put ref { p with state := .held, dep := none, slot := none } }.addTask
      (newTask .relocate 1 (.floor l) .holdBay [ref] 1 none)

theorem Yard.bumped_get (y : Yard) (d ref pos l : Nat) (pr : Profile) (p : Pallet) :
    (y.bumped d ref pos l pr p).pallets.get ref = some { p with state := .held, dep := none, slot := none } :=
  Tab.get_put_same ..

section

variable {env : Env} {y : Yard} {ref l d pos tier : Nat} {p : Pallet} {pr : Profile}
  (hp : y.pallets.get ref = some p) (hst : p.state = .inLane) (hloc : p.loc = some (.floor l)) (hl : 2 ≤ l)

include hp hst hloc hl

/-- A pallet that stands in a lane is bound to the hold there, R71. -/
theorem Yard.bindHold_lane (hroom : y.poolFull = false) : y.bindHold ref = (y.allocId,
    { y with pallets := y.pallets.put ref { p with state := .held } }.addTask
      (newTask .relocate 1 (.floor l) .holdBay [ref] 1 none)) := by
  unfold Yard.bindHold
  rw [Floor.standOf_lane hp hst hloc hl, Yard.modPallet, Tab.modify_of_get _ hp]
  rcases Yard.askTask_cases { y with pallets := y.pallets.put ref { p with state := .held } } .relocate 1 (.floor l) .holdBay
    ref with ⟨-, hask⟩ | ⟨hfull, -⟩
  · exact hask
  · cases hroom.symm.trans hfull

/-- BUMP PALLET of a pallet on top of its stack on a PLANNED departure, which no task carries, R74. -/
theorem answerBumpPallet_top {body : List Byte} (hlen : body.length = 4) (hopen : env.isOpen = true)
    (hlive : y.refOf (u32 body 0) = some ref) (hdep : p.dep = some d) (hslot : p.slot = some (pos, tier))
    (hpr : env.profileOf d = some pr) (hplanned : (y.departure d).state = .planned)
    (htop : ((y.deck d).stackAt pos).length = tier) (hcarrier : y.carrier ref = none) (hbacklog : y.backlogOf ref = none)
    (hroom : y.poolFull = false) :
    answerBumpPallet body env y = .done (le8 6 ++ le16 y.allocId ++ le8 0) (y.bumped d ref pos l pr p) := by
  have hbumpable : (y.pallet ref).bumpable = true := by rw [Floor.pallet_of_get hp, Pallet.bumpable, hst]
  have hnot {st : DepState} (h : DepState.planned ≠ st) : (y.departure d).state ≠ st := hplanned ▸ h
  have hremove : y.removeEntry env .bumpLift ref = (0, y.pulled d ref pos pr p) :=
    (Yard.removeEntry_top hp hdep hslot hpr htop.le hcarrier).trans (congrArg (Prod.mk 0)
      (Yard.evaluate_of_state (y := y.pulled d ref pos pr p) (hnot nofun) (hnot nofun)))
  have htip : (y.pulled d ref pos pr p).takeOffTip env ref = y.pulled d ref pos pr p := Yard.takeOffTip_none hcarrier hbacklog
  have hbind : (y.pulled d ref pos pr p).bindHold ref = (y.allocId, y.bumped d ref pos l pr p) := by
    rw [Yard.bindHold_lane (y := y.pulled d ref pos pr p) (Tab.get_put_same ..) hst hloc hl hroom, Yard.pulled, Tab.put_put]
    rfl
  have hheld : ((y.bumped d ref pos l pr p).pallet ref).state = .held := by
    rw [Floor.pallet_of_get (Yard.bumped_get y d ref pos l pr p)]
  have hwatch : (y.bumped d ref pos l pr p).watch env y.toFloor = y.bumped d ref pos l pr p := Yard.watch_lanes rfl
  unfold answerBumpPallet labelled needsNight
  rw [if_neg (not_not.mpr hlen), if_pos hopen, hlive]
  simp only [hbumpable, hremove, htip, hbind, hheld, hwatch]
  rfl

end

/-- Settles O29. -/
theorem bumpedPalletIsHeldInItsLane : Obligations.BumpedPalletIsHeldInItsLane := by
  intro s u tag body ref l d pos tier p e pr hu hlen hopen hlive hp hst hloc hl hdep hslot he hpr hplanned htop hcarrier
    hbacklog hsize
  have hprofile : u.toRun.env.profileOf d = some pr := Env.profileOf_of_get he hpr
  have hroom : u.toRun.yard.poolFull = false := decide_eq_false (Nat.not_le.mpr hsize)
  have hanswer := answerBumpPallet_top (env := u.toRun.env) (y := u.toRun.yard) hp hst hloc hl hlen hopen hlive hdep hslot
    hprofile hplanned htop hcarrier hbacklog hroom
  refine ⟨_, congrArg Host.Outcome.next (takeRequest_asYard hu hanswer), Yard.bumped_get .., fun r hr => ?others, rfl, rfl,
    ?level1, fun level hlevel => ?levels, rfl, rfl, rfl, rfl, rfl, rfl, rfl, rfl, rfl⟩
  case others => exact Tab.get_put_other _ _ hr
  case level1 => exact Yard.queue_enqueue _ 1 _ 1
  case levels => exact (Yard.queue_enqueue _ 1 _ level).trans (by rw [if_neg hlevel, List.append_nil]; rfl)

/-! ## RELEASE PALLET, R75 -/

theorem PalletState.releasable_iff {st : PalletState} :
    st.releasable = true ↔ st = .held ∨ st = .exception ∨ st = .missing := by cases st <;> simp [PalletState.releasable]

/-- A pallet that is in no lane leaves none. -/
theorem Yard.leaveLoc_none {y : Yard} {loc : Option Loc} {ref : Nat} (h : ∀ l, loc = some (.floor l) → l < 2) :
    y.leaveLoc loc ref = y := by
  unfold Yard.leaveLoc
  split
  · rename_i l
    have hl : isLane l = false := decide_eq_false (Nat.not_le.mpr (h l rfl))
    rw [hl]
    rfl
  · rfl

/-- A record that no task carries and that stands in no lane is freed, R75. -/
theorem answerReleasePallet_frees {body : List Byte} {env : Env} {y : Yard} {ref : Nat} (hlen : body.length = 4)
    (hlive : y.refOf (u32 body 0) = some ref) (hstate : (y.pallet ref).state.releasable = true)
    (hcarrier : y.carrier ref = none) (hloc : ∀ l, (y.pallet ref).loc = some (.floor l) → l < 2) :
    answerReleasePallet body env y =
      .done (le32 (y.pallet ref).label ++ le8 (y.pallet ref).state.code ++ le8 (y.pallet ref).reasonCode)
        ((y.dropBacklog ref).freePallet ref) := by
  have hbacklog : y.takeOffRelocate env ref = y.dropBacklog ref := by rw [Yard.takeOffRelocate, hcarrier]
  have hwatch : ((y.dropBacklog ref).freePallet ref).watch env y.toFloor = (y.dropBacklog ref).freePallet ref :=
    Yard.watch_lanes rfl
  unfold answerReleasePallet labelled
  rw [if_neg (not_not.mpr hlen), hlive]
  simp only [hstate, hbacklog, Yard.leaveLoc_none hloc, hwatch]
  rfl

/-- Settles O30. -/
theorem releasePalletFreesTheRecord : Obligations.ReleasePalletFreesTheRecord := by
  intro s u tag body hu hlen
  refine ⟨fun hnone => ?unknown, fun ref hlive => ⟨fun hheld hexception hmissing => ?state, fun hstate hcarrier hloc => ?freed⟩⟩
  case unknown =>
    have hanswer : answerReleasePallet body u.toRun.env u.toRun.yard = .refused .unknown := by
      simp [answerReleasePallet, labelled, hlen, hnone]
    exact congrArg Host.Outcome.next (takeRequest_asYard_refused hu hanswer)
  case state =>
    have hnot : (u.floor.pallet ref).state.releasable = false := by
      rw [← Bool.not_eq_true, PalletState.releasable_iff]
      simp [hheld, hexception, hmissing]
    have hanswer : answerReleasePallet body u.toRun.env u.toRun.yard = .refused .state := by
      simp [answerReleasePallet, labelled, hlen, hlive, hnot]
    exact congrArg Host.Outcome.next (takeRequest_asYard_refused hu hanswer)
  case freed =>
    exact congrArg Host.Outcome.next (takeRequest_asYard hu (answerReleasePallet_frees (env := u.toRun.env)
      (y := u.toRun.yard) hlen hlive (PalletState.releasable_iff.mpr hstate) hcarrier hloc))

end Sys2Proof.Machine

namespace Sys2Proof.Machine

/-! ## Occupancy of a lane, R77, R80 to R82 -/

/-- A lane's record is written: its own occupancy is the record's, every other stays. -/
theorem Yard.occupancy_setLane (y : Yard) (l : Nat) (r : Lane) (m : Nat) :
    (y.setLane l r).occupancy m = if m = l then r.occupancy else y.occupancy m := by
  split
  · subst m
    exact congrArg Lane.occupancy (Floor.lane_setLane y l r)
  · exact congrArg Lane.occupancy (Floor.lane_setLane_other y r ‹_›)

/-- Where the record written holds no more than before, no lane fills. -/
theorem Yard.occupancy_setLane_le {y : Yard} {l : Nat} {r : Lane} (h : r.occupancy ≤ y.occupancy l) (m : Nat) :
    (y.setLane l r).occupancy m ≤ y.occupancy m := by
  rw [Yard.occupancy_setLane]
  split
  · subst m
    exact h
  · exact le_rfl

/-- A reserved place counts, R81. -/
theorem Yard.occupancy_laneExpect (y : Yard) (l : Nat) : (y.laneExpect l).occupancy l = y.occupancy l + 1 := by
  rw [Yard.laneExpect, Yard.occupancy_setLane, if_pos rfl]
  rfl

/-- A pallet that arrives where it was expected takes its reserved place, R81. -/
theorem Lane.occupancy_arrive {r : Lane} (ref : Nat) (h : 0 < r.incoming) :
    { r with incoming := r.incoming - 1, present := r.present ++ [ref] }.occupancy = r.occupancy := by
  simp only [Lane.occupancy, List.length_append, List.length_singleton]
  omega

theorem Yard.occupancy_laneArrive {y : Yard} {l : Nat} (ref : Nat) (h : 0 < (y.lane l).incoming) (m : Nat) :
    (y.laneArrive l ref).occupancy m = y.occupancy m := by
  rw [Yard.laneArrive, Yard.occupancy_setLane, Lane.occupancy_arrive ref h]
  split
  · subst m
    rfl
  · rfl

/-! ## The lane chosen, R84 -/

theorem Floor.chooseLane_some {f : Floor} {env : Env} {e : DepartureEntry} {dest l : Nat}
    (h : f.chooseLane env e dest = some l) : l ∈ e.dropLanes dest ∧ f.occupancy l < env.plan.capacity l :=
  ⟨List.mem_of_find?_eq_some h, of_decide_eq_true (List.find?_some h :)⟩

theorem Floor.chooseLane_none_iff {f : Floor} {env : Env} {e : DepartureEntry} {dest : Nat} :
    f.chooseLane env e dest = none ↔ ∀ l ∈ e.dropLanes dest, env.plan.capacity l ≤ f.occupancy l := by
  simp only [Floor.chooseLane, List.find?_eq_none, decide_eq_true_eq, Nat.not_lt]

/-- The primary lane comes first. -/
theorem Floor.chooseLane_primary {f : Floor} {env : Env} {e : DepartureEntry} {dest p : Nat} {rest : List Nat}
    (hlanes : e.dropLanes dest = p :: rest) (hroom : f.occupancy p < env.plan.capacity p) :
    f.chooseLane env e dest = some p := by
  rw [Floor.chooseLane, hlanes]
  exact List.find?_cons_of_pos (decide_eq_true hroom)

/-- Settles O34. -/
theorem chosenLaneHasRoomForThePallet : Obligations.ChosenLaneHasRoomForThePallet := by
  refine ⟨fun y env e dest l hchoose => ?chosen, fun _ _ _ _ => Floor.chooseLane_none_iff,
    fun y l ref m => ⟨fun hexpected => ?arrives, ?givenUp, ?leaves⟩⟩
  case chosen =>
    obtain ⟨hmem, hroom⟩ := Floor.chooseLane_some hchoose
    have hone := y.occupancy_laneExpect l
    exact ⟨hmem, hroom,
      fun p rest hlanes hfirst => Option.some.inj (hchoose.symm.trans (Floor.chooseLane_primary hlanes hfirst)),
      hone, hone.trans_le hroom, fun m hm => Floor.lane_setLane_other y _ hm⟩
  case arrives => exact Yard.occupancy_laneArrive ref hexpected m
  case givenUp => exact Yard.occupancy_setLane_le (Lane.occupancy_unexpect_le _) m
  case leaves => exact Yard.occupancy_setLane_le (Lane.occupancy_filter_le ..) m

/-! ## WATCH LANES, R85 -/

/-- A lane of capacity `c` with new limits, the high one lowered to the capacity, R85. -/
def Lane.limited (r : Lane) (c : Nat) (high low : Option Nat) : Lane :=
  { r with high := high.map fun h => min h c, low := low }

theorem Yard.setLimits_eq (y : Yard) (plan : ActivePlan) (l : Nat) (high low : Option Nat) :
    y.setLimits plan l high low = y.setLane l ((y.lane l).limited (plan.capacity l) high low) := rfl

@[simp] theorem Lane.limited_limited (r : Lane) (c : Nat) (high low : Option Nat) :
    (r.limited c high low).limited c high low = r.limited c high low := rfl

/-- The limits as the fields of a WATCH LANES give them, 255 for none. -/
theorem Lane.limited_fields (r : Lane) (c high low : Nat) :
    r.limited c (limitField high) (limitField low) =
      { r with
        high := if high = 255 then none else some (min high c)
        low := if low = 255 then none else some low } := by
  unfold Lane.limited limitField
  by_cases h : high = 255 <;> simp [h]

/-- The high limit set, as the reply gives it. -/
theorem limit8_limited_high (r : Lane) (c high : Nat) (low : Option Nat) :
    limit8 (r.limited c (limitField high) low).high = le8 (if high = 255 then 255 else min high c) := by
  unfold Lane.limited limitField limit8
  by_cases h : high = 255 <;> simp [h]

/-- Limits set lane by lane: each lane listed gets them by its own capacity, and nothing but lane records changes. -/
theorem Yard.foldl_setLimits (plan : ActivePlan) (high low : Option Nat) (ls : List Nat) (y : Yard) : ∃ lanes,
    ls.foldl (fun z l => z.setLimits plan l high low) y = { y with lanes := lanes } ∧
      ∀ k, Tab.at Lane.reset lanes k = if k ∈ ls then (y.lane k).limited (plan.capacity k) high low else y.lane k := by
  induction ls generalizing y with
  | nil => exact ⟨y.lanes, rfl, fun k => rfl⟩
  | cons l rest ih =>
    obtain ⟨lanes, hfold, hlanes⟩ := ih (y.setLimits plan l high low)
    refine ⟨lanes, hfold, fun k => (hlanes k).trans ?_⟩
    rw [Yard.setLimits_eq]
    by_cases hk : k = l
    · subst hk
      simp
    · simp [hk, Floor.lane_setLane_other]

theorem ActivePlan.capacity_of_get {plan : ActivePlan} {l c : Nat} (h : plan.lanes.get l = some c) :
    plan.capacity l = c := by
  rw [ActivePlan.capacity, Tab.at, h]
  rfl

/-- A limit is judged only where there is one. -/
theorem limitField_any {n : Nat} {p : Nat → Bool} (h : n = 255 ∨ p n = false) : (limitField n).any p = false := by
  unfold limitField
  split
  · rfl
  · exact h.resolve_left ‹_›

section

variable {target high low : Byte} {env : Env} {y : Yard}
  (hhigh : high.toNat = 255 ∨ 1 ≤ high.toNat ∧ high.toNat ≤ 40) (hlow : low.toNat = 255 ∨ low.toNat ≤ 39)

include hhigh hlow

/-- WATCH LANES past the checks of its fields. -/
theorem answerWatchLanes_inRange (htarget : target.toNat = 255 ∨ 2 ≤ target.toNat ∧ target.toNat ≤ 65) :
    answerWatchLanes [target, high, low] env y =
      if target.toNat = 255 then
        .done (le8 env.plan.lanes.size ++ [0#8]) (env.plan.lanes.keys.foldl (fun z l =>
          z.setLimits env.plan l (limitField high.toNat) (limitField low.toNat)) y)
      else if env.plan.lanes.has target.toNat then
        .done (le8 1 ++ le8 (if high.toNat = 255 then 255 else min high.toNat (env.plan.capacity target.toNat)))
          (y.setLimits env.plan target.toNat (limitField high.toNat) (limitField low.toNat))
      else .refused .unknown := by
  have hanyHigh : (limitField high.toNat).any (fun h => h < 1 ∨ 40 < h) = false :=
    limitField_any (hhigh.imp_right fun ⟨h1, h40⟩ => decide_eq_false (by omega))
  have hanyLow : (limitField low.toNat).any (fun l => 39 < l) = false :=
    limitField_any (hlow.imp_right fun h39 => decide_eq_false (by omega))
  have hrange : ¬(¬(target.toNat = 255 ∨ 2 ≤ target.toNat ∧ target.toNat ≤ 65) ∨
      (limitField high.toNat).any (fun h => h < 1 ∨ 40 < h) = true ∨
      (limitField low.toNat).any (fun l => 39 < l) = true) := by
    rw [hanyHigh, hanyLow]
    simp [htarget]
  rw [← limit8_limited_high (y.lane target.toNat) _ _ (limitField low.toNat),
    ← Floor.lane_setLane y target.toNat ((y.lane target.toNat).limited ..)]
  exact if_neg hrange

end

/-- Settles O54. -/
theorem watchLanesSetsTheLimits : Obligations.WatchLanesSetsTheLimits := by
  intro s u tag target high low hu hhigh hlow
  have answer := answerWatchLanes_inRange (target := target) (env := u.toRun.env) (y := u.toRun.yard) hhigh hlow
  refine ⟨fun h2 h65 => ?one, fun hall => ?all⟩
  case one =>
    have hsingle := (answer (.inr ⟨h2, h65⟩)).trans (if_neg (by omega))
    refine ⟨fun hnone => ?unknown, fun c hc => ?set⟩
    case unknown =>
      have hnot : ¬u.toRun.env.plan.lanes.has target.toNat = true := by simp [Tab.has, hnone]
      exact congrArg Host.Outcome.next (takeRequest_asYard_refused hu (hsingle.trans (if_neg hnot)))
    case set =>
      have hcapacity : u.toRun.env.plan.capacity target.toNat = c := ActivePlan.capacity_of_get hc
      have hhas : u.toRun.env.plan.lanes.has target.toNat = true := by simp [Tab.has, hc]
      rw [if_pos hhas, Yard.setLimits_eq, hcapacity, Lane.limited_fields] at hsingle
      exact congrArg Host.Outcome.next (takeRequest_asYard hu hsingle)
  case all =>
    obtain ⟨lanes, hfold, hlanes⟩ := Yard.foldl_setLimits u.plan.active (limitField high.toNat) (limitField low.toNat)
      u.plan.active.lanes.keys u.toRun.yard
    have hevery := (answer (.inl hall)).trans ((if_pos hall).trans (congrArg (Answer.done _) hfold))
    refine ⟨_, congrArg Host.Outcome.next (takeRequest_asYard hu hevery), fun l c hc => ?inPlan, fun l hnone => ?notInPlan,
      rfl⟩
    case inPlan =>
      have hmem : l ∈ u.plan.active.lanes.keys := Tab.mem_keys_of_has (by simp [Tab.has, hc])
      rw [Floor.lane, hlanes, if_pos hmem, ActivePlan.capacity_of_get hc, Lane.limited_fields]
      rfl
    case notInPlan =>
      have hmem : l ∉ u.plan.active.lanes.keys := fun h => by simpa [Tab.has, hnone] using Tab.has_of_mem_keys h
      rw [Floor.lane, hlanes, if_neg hmem]
      rfl

/-! ## ACK ALERT and the merging of alerts, R86 to R88 -/

/-- The high limit where it is risen to, or else the low one where it is fallen to, R86. -/
theorem Lane.crossed_eq (r : Lane) (b a : Nat) : r.crossed b a =
    ((r.high.filter fun h => b < h ∧ h ≤ a).map (Prod.mk .high)).or
      ((r.low.filter fun lo => lo < b ∧ a ≤ lo).map (Prod.mk .low)) := by
  unfold Lane.crossed
  cases r.high with
  | none => cases r.low <;> simp [Option.filter, apply_ite]
  | some h =>
    by_cases hup : b < h ∧ h ≤ a
    · simp [Option.filter, hup]
    · cases r.low <;> simp [Option.filter, hup, apply_ite]

/-- A rise to the high limit crosses it, R86. -/
theorem Lane.crossed_high_iff {r : Lane} {b a limit : Nat} :
    r.crossed b a = some (.high, limit) ↔ r.high = some limit ∧ b < limit ∧ limit ≤ a := by
  simp [Lane.crossed_eq, Option.or_eq_some_iff, Option.filter_eq_some_iff]

/-- A fall to the low limit crosses it, R86: the high one is not risen to by a fall. -/
theorem Lane.crossed_low_iff {r : Lane} {b a limit : Nat} :
    r.crossed b a = some (.low, limit) ↔ r.low = some limit ∧ limit < b ∧ a ≤ limit := by
  have hfall : r.low = some limit → limit < b → a ≤ limit → ∀ h, r.high = some h → b < h → a < h := by
    intros
    omega
  simpa [Lane.crossed_eq, Option.or_eq_some_iff, Option.filter_eq_some_iff] using hfall

section

variable {y : Yard} {env : Env} {before : Floor} {l limit : Nat} {kind : AlertKind}
  (hcrossed : (y.lane l).crossed (before.occupancy l) (y.occupancy l) = some (kind, limit))

include hcrossed

theorem Yard.watchLane_crossed : y.watchLane env before l = y.crossing env l kind limit := by
  rw [Yard.watchLane, hcrossed]

/-- A crossing with no alert pending makes one, with its LANE ALERT, R87. -/
theorem Yard.watchLane_alerts (hnone : (y.lane l).alert = none) : y.watchLane env before l =
    (y.setLane l { y.lane l with alert := some { kind := kind, minute := env.minute, merged := 0 } }).note env l
      (.lane kind (y.occupancy l) limit (y.lane l).present.length (y.lane l).incoming 0) := by
  rw [Yard.watchLane_crossed hcrossed, Yard.crossing]
  simp only [hnone]
  rfl

/-- A crossing with an alert pending merges into it, R87. -/
theorem Yard.watchLane_merges {a : Alert} (ha : (y.lane l).alert = some a) : y.watchLane env before l =
    y.setLane l { y.lane l with alert := some { a with merged := min 255 (a.merged + 1) } } := by
  rw [Yard.watchLane_crossed hcrossed, Yard.crossing]
  simp only [ha]
  rfl

end

/-- Settles O55. -/
theorem alertsMergeUntilAcknowledged : Obligations.AlertsMergeUntilAcknowledged := by
  refine ⟨fun s u tag body hu => ⟨fun hlen => ?format, ?numbered⟩,
    fun y env before l limit kind hcrossed => ⟨fun hnone => ?made, fun a ha => ?merged⟩,
    fun r b a limit => ⟨Lane.crossed_high_iff, Lane.crossed_low_iff⟩⟩
  case format => exact congrArg Host.Outcome.next (takeRequest_asYard_refused hu (numbered_format hlen))
  case numbered =>
    rintro l rfl
    refine ⟨fun hout => ?range, fun h2 h65 => ⟨fun hnone => ?state, fun a ha => ?removed⟩⟩
    case range => exact congrArg Host.Outcome.next (takeRequest_asYard_refused hu (numbered_range hout))
    case state =>
      have hanswer : answerAckAlert [l] u.toRun.env u.toRun.yard = .refused .state := by
        simp [answerAckAlert, numbered_in h2 h65, hnone]
      exact congrArg Host.Outcome.next (takeRequest_asYard_refused hu hanswer)
    case removed =>
      have hanswer : answerAckAlert [l] u.toRun.env u.toRun.yard = .done (alertBytes (some a))
          (u.toRun.yard.setLane l.toNat { u.floor.lane l.toNat with alert := none }) := by
        simp [answerAckAlert, numbered_in h2 h65, ha]
      exact congrArg Host.Outcome.next (takeRequest_asYard hu hanswer)
  case made =>
    rw [Yard.watchLane_alerts hcrossed hnone]
    exact ⟨congrArg Lane.alert (Floor.lane_setLane y l _), rfl⟩
  case merged =>
    rw [Yard.watchLane_merges hcrossed ha]
    exact ⟨congrArg Lane.alert (Floor.lane_setLane y l _), rfl⟩

end Sys2Proof.Machine

namespace Sys2Proof.Machine

/-! ## Requests on one mover, R98, R99 -/

section

variable {c : Byte} {body : List Byte} {env : Env} {k : Nat → Answer Yard}

theorem onMover_format (h : body.length ≠ 1) : onMover body env k = .refused .format := numbered_format h

theorem onMover_range (h : c.toNat < 1 ∨ 24 < c.toNat) : onMover [c] env k = .refused .range := numbered_range h

theorem onMover_in (h1 : 1 ≤ c.toNat) (h24 : c.toNat ≤ 24) : onMover [c] env k = needsNight env (k c.toNat) :=
  numbered_in h1 h24

theorem needsNight_open {a : Answer Yard} (h : env.isOpen = true) : needsNight env a = a := if_pos h

theorem needsNight_shut {a : Answer Yard} (h : env.isOpen = false) : needsNight env a = .refused .night :=
  if_neg (Bool.eq_false_iff.mp h)

end

/-- Settles O35. -/
theorem moverOnMakesTheMoverIdle : Obligations.MoverOnMakesTheMoverIdle := by
  intro s u tag body hu
  have refuse {c} h := congrArg (Host.Outcome.next (φ := Fault) (ρ := Refusal))
    (takeRequest_asYard_refused (g := answerMoverOn body) (c := c) hu h)
  refine ⟨fun hlen => refuse (onMover_format hlen), ?_⟩
  rintro m rfl
  refine ⟨fun hout => refuse (onMover_range hout), fun h1 h24 => ?inRange⟩
  have answer : answerMoverOn [m] u.toRun.env u.toRun.yard = _ := onMover_in h1 h24
  refine ⟨fun hshut => refuse (answer.trans (needsNight_shut hshut)), fun hopen => ?_⟩
  rw [needsNight_open hopen] at answer
  refine ⟨fun hon => ?on, fun hoff => ?off⟩
  case on =>
    refine refuse (answer.trans ?_)
    cases hstate : (u.toRun.yard.mover m.toNat).state with
    | off => exact absurd hstate hon
    | idle => rfl
    | busy id => rfl
  case off =>
    simp only [State.toRun_floor, hoff] at answer
    exact congrArg Host.Outcome.next (takeRequest_asYard hu answer)

/-! ## A task is taken off its mover and returns to a queue, R97, R111 -/

/-- The level queues once task `id` has left level `a` and joined the tail of level `b`, R111. -/
def moveQueue (q : Tab (List Nat)) (a b id : Nat) : Tab (List Nat) :=
  let left := q.set [] a ((q.at [] a).filter (· ≠ id))
  left.set [] b (left.at [] b ++ [id])

theorem moveQueue_at (q : Tab (List Nat)) (a b id k : Nat) :
    (moveQueue q a b id).at [] k =
      (if k = a then (q.at [] k).filter (· ≠ id) else q.at [] k) ++ (if k = b then [id] else []) := by
  have hleft : (q.set [] a ((q.at [] a).filter (· ≠ id))).at [] k =
      if k = a then (q.at [] k).filter (· ≠ id) else q.at [] k := by
    split
    · subst k
      exact Tab.at_set_same ..
    · exact Tab.at_set_other _ _ _ ‹_›
  rw [← hleft]
  by_cases hk : k = b
  · subst k
    simp [moveQueue]
  · simp [moveQueue, hk, Tab.at_set_other]

/-- A task as it stands in the queue of `level` once it has returned, R111. -/
def Task.back (t : Task) (level : Nat) (mark : Bool) : Task := { t with level := level, mover := none, mark := mark }

/-- The floor on which mover `m` has lost task `id`, standing as `st` says, and the task has returned to the tail of the queue
of `level`, R111. -/
def Yard.handedBack (y : Yard) (id m : Nat) (t : Task) (st : MoverState) (level : Nat) (mark : Bool) : Yard :=
  { y with
    movers := y.movers.set Mover.reset m { state := st, last := some id }
    tasks := y.tasks.put id (t.back level mark)
    queues := moveQueue y.queues t.level level id
    issued := y.issued.filter (· ≠ id) }

section

variable {y : Yard} {env : Env} {id m level : Nat} {t : Task} {st : MoverState} {mark : Bool}

/-- The mover of an ISSUED task is freed, R97. -/
theorem Yard.freeMover_issued (ht : y.tasks.get id = some t) (hmover : t.mover = some m) :
    y.freeMover id st = y.setMover m { state := st, last := some id } := by
  simp [Yard.freeMover, ht, hmover]

/-- A QUEUED task has no mover to free. -/
theorem Yard.freeMover_queued (ht : y.tasks.get id = some t) (hmover : t.mover = none) : y.freeMover id st = y := by
  simp [Yard.freeMover, ht, hmover]

/-- The return of a task that is no load task and has no pallet left to move, R111. -/
theorem Yard.returnTask_bare (ht : y.tasks.get id = some t) (hloads : t.loads = false) (hnone : t.unmoved = []) :
    y.returnTask env id level mark =
      { y with
        tasks := y.tasks.put id (t.back level mark)
        queues := moveQueue y.queues t.level level id
        issued := y.issued.filter (· ≠ id) } := by
  simp only [Yard.returnTask, ht, hloads, hnone, List.foldl_nil, Yard.modTask, Yard.dequeue, Yard.setQueue,
    Tab.modify_of_get _ ht]
  rfl

/-- An ISSUED task of that kind is taken off its mover and returns. -/
theorem Yard.freeMover_returnTask (ht : y.tasks.get id = some t) (hmover : t.mover = some m) (hloads : t.loads = false)
    (hnone : t.unmoved = []) :
    (y.freeMover id st).returnTask env id level mark = y.handedBack id m t st level mark := by
  rw [Yard.freeMover_issued ht hmover, Yard.returnTask_bare (y := y.setMover m _) (by exact ht) hloads hnone]
  rfl

end

theorem Task.loads_posted {t : Task} (hkind : t.kind = .posted) : t.loads = false :=
  Task.not_loads_iff.mpr (by simp [hkind])

theorem Task.unmoved_nil {t : Task} (hnone : t.pallets = []) : t.unmoved = [] := by simp [Task.unmoved, hnone]

/-- Settles O36. -/
theorem moverOffReturnsItsTask : Obligations.MoverOffReturnsItsTask := by
  intro s u tag m hu h1 h24 hopen
  have answer : answerMoverOff [m] u.toRun.env u.toRun.yard = _ := (onMover_in h1 h24).trans (needsNight_open hopen)
  refine ⟨fun hoff => ?off, fun hidle => ?idle, fun id t hbusy ht hmover hkind hnone => ?busy⟩
  case off =>
    simp only [State.toRun_floor, hoff] at answer
    exact congrArg Host.Outcome.next (takeRequest_asYard_refused hu answer)
  case idle =>
    simp only [State.toRun_floor, hidle] at answer
    exact congrArg Host.Outcome.next (takeRequest_asYard hu answer)
  case busy =>
    have hback : ((u.toRun.yard.freeMover id .off).returnTask u.toRun.env id t.level false).watch u.toRun.env u.floor =
        u.toRun.yard.handedBack id m.toNat t .off t.level false := by
      rw [Yard.freeMover_returnTask ht hmover (Task.loads_posted hkind) (Task.unmoved_nil hnone)]
      exact Yard.watch_lanes rfl
    simp only [State.toRun_floor, hbusy, ht, Option.map_some, Option.getD_some, hback] at answer
    have hqueue := moveQueue_at u.floor.queues t.level t.level id
    exact ⟨_, congrArg Host.Outcome.next (takeRequest_asYard hu answer), Tab.at_set_same .., fun k hk =>
      Tab.at_set_other _ _ _ hk, Tab.get_put_same .., fun k hk => Tab.get_put_other _ _ hk,
      (hqueue _).trans (by rw [if_pos rfl, if_pos rfl]; rfl),
      fun k hk => (hqueue k).trans (by rw [if_neg hk, if_neg hk, List.append_nil]; rfl), rfl, rfl⟩

end Sys2Proof.Machine

namespace Sys2Proof.Machine

/-! ## The acceptance table, R102 -/

section

variable {t : Task} {m k : Nat}

theorem Task.judge_issued (hmover : t.mover = some k) :
    t.judge m = if k = m then .current else .refused .stale := by rw [Task.judge, hmover]

theorem Task.judge_neverIssued (hmover : t.mover = none) (hlast : t.lastMover = none) : t.judge m = .refused .state := by
  rw [Task.judge, hmover, hlast]

theorem Task.judge_queued (hmover : t.mover = none) (hlast : t.lastMover = some k) :
    t.judge m = if k ≠ m then .refused .stale else if t.mark then .late else .refused .state := by
  rw [Task.judge, hmover, hlast]

/-- Case (a) is the mover that holds the task. -/
theorem Task.mover_of_current (h : t.judge m = .current) : t.mover = some m := by
  cases hmover : t.mover with
  | some k =>
    rw [Task.judge_issued hmover] at h
    by_cases hk : k = m
    · rw [hk]
    · rw [if_neg hk] at h
      cases h
  | none =>
    cases hlast : t.lastMover with
    | none => cases (Task.judge_neverIssued hmover hlast).symm.trans h
    | some k =>
      rw [Task.judge_queued hmover hlast] at h
      split_ifs at h

/-- Case (b) is a task that no mover holds. -/
theorem Task.mover_of_late (h : t.judge m = .late) : t.mover = none := by
  cases hmover : t.mover with
  | some k =>
    rw [Task.judge_issued hmover] at h
    split_ifs at h
  | none => rfl

end

/-- Settles O38. -/
theorem reportsAreJudgedByTheTable : Obligations.ReportsAreJudgedByTheTable := by
  intro t m
  refine ⟨fun hmover => ?current, fun k hmover hk => ?stale, fun hmover hlast => Task.judge_neverIssued hmover hlast,
    fun k hmover hlast hk => ?staleQueued, fun hmover hlast hmark => ?late, fun hmover hlast hmark => ?state⟩
  case current => exact (Task.judge_issued hmover).trans (if_pos rfl)
  case stale => exact (Task.judge_issued hmover).trans (if_neg hk)
  case staleQueued => exact (Task.judge_queued hmover hlast).trans (if_pos hk)
  case late => simp [Task.judge_queued hmover hlast, hmark]
  case state => simp [Task.judge_queued hmover hlast, hmark]

/-! ## TASK DONE of a POSTED task, R102 to R105 -/

/-- The body of a TASK DONE of `n` lifts by mover `m`, R102, with the label scanned. -/
def liftReport (id label : Nat) (m n : Byte) : List Byte := le16 id ++ [m, n] ++ le32 label

theorem liftReport_fields {id : Nat} (label : Nat) (m n : Byte) (hid : id ≤ 65535) :
    (liftReport id label m n).length = 8 ∧ u16 (liftReport id label m n) 0 = id ∧ u8 (liftReport id label m n) 2 = m.toNat ∧
      u8 (liftReport id label m n) 3 = n.toNat := by
  refine ⟨rfl, ?_, rfl, rfl⟩
  rw [liftReport, List.append_assoc]
  exact u16_le16_append hid _

/-- A report that the table accepts, in case (a) or (b), while the night is OPEN, R102. -/
theorem onReport_accepted {body : List Byte} {length id m : Nat} {env : Env} {y : Yard} {t : Task} {late : Bool}
    {k : Nat → Nat → Task → Bool → Answer Yard} (hlen : body.length = length) (hid : u16 body 0 = id) (hm : u8 body 2 = m)
    (h1 : 1 ≤ m) (h24 : m ≤ 24) (hopen : env.isOpen = true) (ht : y.tasks.get id = some t)
    (hjudge : t.judge m = if late then .late else .current) : onReport body length true env y k = k id m t late := by
  subst hid hm
  cases late <;>
    simp [onReport, hlen, Nat.not_lt.mpr h1, Nat.not_lt.mpr h24, needsNight_open hopen, ht, hjudge]

/-- The result bytes of a TASK DONE that moves no pallet, R103 to R105. -/
def liftBytes (id n : Nat) (t : Task) (ended late : Bool) : List Byte :=
  le16 id ++ le8 (t.done + n) ++ le8 t.total ++ flag8 ended ++ flag8 late ++ [0#8]

/-- The floor on which `n` lifts of a POSTED task are recorded, R103. -/
def Yard.lifted (y : Yard) (id n : Nat) (t : Task) : Yard :=
  { y with tasks := y.tasks.put id { t with done := t.done + n } }

/-- The end of a task in case (b): no mover holds it, and departure control is not told, R104. -/
theorem Yard.endTask_late {y : Yard} {env : Env} {id : Nat} {t t' : Task} (ht : y.tasks.get id = some t')
    (hmover : t'.mover = none) (hbacklog : y.backlog = []) (hstalled : y.stalledDeps = []) :
    y.endTask env id t true =
      { y with
        tasks := y.tasks.erase id
        issued := y.issued.filter (· ≠ id)
        queues := y.queues.set [] t'.level ((y.queue t'.level).filter (· ≠ id)) } := by
  rw [Yard.endTask, Yard.freeMover_queued ht hmover, if_pos rfl, Yard.leavePool_of_get ht hbacklog hstalled]

section

variable {id label : Nat} {m n : Byte} {env : Env} {y : Yard} {t : Task} {late : Bool}
  (hid : id ≤ 65535) (h1 : 1 ≤ m.toNat) (h24 : m.toNat ≤ 24) (hopen : env.isOpen = true) (ht : y.tasks.get id = some t)
  (hjudge : t.judge m.toNat = if late then .late else .current)

include hid h1 h24 hopen ht hjudge

/-- More lifts than remain, or none, are out of range, R103. -/
theorem answerTaskDone_range (hn : n.toNat = 0 ∨ t.remaining < n.toNat) :
    answerTaskDone (liftReport id label m n) env y = .refused .range := by
  obtain ⟨hlen, hfid, hfm, hfn⟩ := liftReport_fields label m n hid
  refine (onReport_accepted hlen hfid hfm h1 h24 hopen ht hjudge).trans (if_pos ?_)
  rwa [hfn]

variable (hkind : t.kind = .posted) (hnone : t.pallets = []) (hn : 1 ≤ n.toNat)

include hkind hnone hn

/-- The lifts of a POSTED task are recorded, and with the last the task ends, R103, R104. -/
theorem answerTaskDone_posted (hrem : n.toNat ≤ t.remaining) :
    answerTaskDone (liftReport id label m n) env y =
      .done (liftBytes id n.toNat t (decide (n.toNat = t.remaining)) late)
        ((if n.toNat = t.remaining then (y.lifted id n.toNat t).endTask env id t late else y.lifted id n.toNat t).watch env
          y.toFloor) := by
  obtain ⟨hlen, hfid, hfm, hfn⟩ := liftReport_fields label m n hid
  have hrange : ¬(n.toNat = 0 ∨ t.remaining < n.toNat) := by omega
  have hrecord : y.recordLifts env id t n.toNat = y.lifted id n.toNat t := by
    rw [Yard.recordLifts, if_pos hkind, Yard.modTask, Tab.modify_of_get _ ht]
    rfl
  refine (onReport_accepted hlen hfid hfm h1 h24 hopen ht hjudge).trans ?_
  simp only [hfn, hrange, if_false, hrecord, Task.unmoved_nil hnone, List.take_nil, List.map_nil, List.flatMap_nil,
    List.append_nil, decide_eq_true_eq]
  rfl

theorem answerTaskDone_postedMore (hrem : n.toNat < t.remaining) :
    answerTaskDone (liftReport id label m n) env y = .done (liftBytes id n.toNat t false late) (y.lifted id n.toNat t) := by
  have hmore : n.toNat ≠ t.remaining := by omega
  rw [answerTaskDone_posted hid h1 h24 hopen ht hjudge hkind hnone hn hrem.le, if_neg hmore, decide_eq_false hmore,
    Yard.watch_lanes (y := y.lifted ..) (before := y.toFloor) rfl]

/-- With the last lift the task ends; where that leaves `z` and no lane has changed, that is all, R104. -/
theorem answerTaskDone_postedLast {z : Yard} (hrem : n.toNat = t.remaining)
    (hend : (y.lifted id n.toNat t).endTask env id t late = z) (hlanes : z.lanes = y.lanes) :
    answerTaskDone (liftReport id label m n) env y = .done (liftBytes id n.toNat t true late) z := by
  rw [answerTaskDone_posted hid h1 h24 hopen ht hjudge hkind hnone hn hrem.le, if_pos hrem, decide_eq_true hrem, hend,
    Yard.watch_lanes hlanes]

end

/-- Settles O39: the end of the task differs in case (a), which frees the mover, and case (b), which finds none. -/
theorem taskDoneRecordsLifts : Obligations.TaskDoneRecordsLifts := by
  intro s u tag m n id label t late hid hu h1 h24 hopen ht hkind hnone hjudge
  refine ⟨fun hn => ?range, fun hn hrem => ?more, fun hn hrem hbacklog hstalled => ?last⟩
  case range =>
    exact congrArg Host.Outcome.next (takeRequest_asYard_refused hu
      (answerTaskDone_range (y := u.toRun.yard) hid h1 h24 hopen ht hjudge hn))
  case more =>
    exact congrArg Host.Outcome.next (takeRequest_asYard hu
      (answerTaskDone_postedMore (y := u.toRun.yard) hid h1 h24 hopen ht hjudge hkind hnone hn hrem))
  case last =>
    have answer {z} := answerTaskDone_postedLast (label := label) (env := u.toRun.env) (y := u.toRun.yard) (z := z) hid h1
      h24 hopen ht hjudge hkind hnone hn hrem
    have hlifted : (u.toRun.yard.lifted id n.toNat t).tasks.get id = some { t with done := t.done + n.toNat } :=
      Tab.get_put_same ..
    have hother (k : Nat) (hk : k ≠ id) :
        ((u.toRun.yard.lifted id n.toNat t).tasks.erase id).get k = u.floor.tasks.get k := (Tab.get_erase_other _ hk).trans (Tab.get_put_other _ _ hk)
    cases late with
    | false =>
      have hend := Yard.endTask_quiet (env := u.toRun.env) (t := t) hlifted (Task.mover_of_current hjudge) hbacklog hstalled
        (fun d hloads => absurd hloads (by simp [Task.loads_posted hkind]))
      exact ⟨_, congrArg Host.Outcome.next (takeRequest_asYard hu (answer hend rfl)), Tab.get_erase_same .., hother,
        Tab.at_set_same .., fun k hk => Tab.at_set_other _ _ _ hk, rfl, fun _ => Tab.at_set_same ..,
        fun k hk => Tab.at_set_other _ _ _ (hk.resolve_left (by simp)), rfl⟩
    | true =>
      have hend := Yard.endTask_late (env := u.toRun.env) (t := t) hlifted (Task.mover_of_late hjudge) hbacklog hstalled
      exact ⟨_, congrArg Host.Outcome.next (takeRequest_asYard hu (answer hend rfl)), Tab.get_erase_same .., hother,
        Tab.at_set_same .., fun k hk => Tab.at_set_other _ _ _ hk, rfl, by simp, fun k _ => rfl, rfl⟩

end Sys2Proof.Machine

namespace Sys2Proof.Machine

/-! ## TASK EXPIRY, R110 -/

/-- The next expiry in turn acts on its task (log 3). -/
theorem State.onRun_expiryStep {s : State} {id : Nat} {rest : List Nat} {y : Yard} (hturn : s.work.expiring = id :: rest)
    (hy : s.toRun.yard.expireWatched s.toRun.env id = y) :
    s.onRun (fun r => r.expiryStep id) =
      { s.withFloor y.toFloor y.notes with work := s.workLeft y.toFloor (.expiry (id :: rest)) (.expiry rest) } := by
  subst hy
  have hturn' : s.toRun.work.expiring = id :: rest := hturn
  simp only [State.onRun, Run.expiryStep, hturn', if_true]
  rfl

/-- What is left after an expiry: the expiries after it, if any (log 5). -/
theorem State.workLeft_expiry (s : State) (f : Floor) (taken : WorkItem) (rest : List Nat) :
    s.workLeft f taken (.expiry rest) =
      { started := if rest = [] then none else some (.expiry rest), waiting := s.work.waiting.filter (· ≠ taken) } := by
  have hwaiting : s.work.waiting.filter (· != taken) = s.work.waiting.filter (· ≠ taken) :=
    List.filter_congr fun j _ => by rw [Bool.eq_iff_iff]; simp
  rw [← hwaiting]
  cases rest <;> rfl

/-- The expiry of an ISSUED task of no departure and without pallets, R110. -/
theorem Yard.expireTask_bare {y : Yard} {env : Env} {id m : Nat} {t : Task} (ht : y.tasks.get id = some t)
    (hmover : t.mover = some m) (hkind : t.kind = .posted) (hnone : t.pallets = []) (hdep : t.dep = none) :
    y.expireTask env id =
      (y.handedBack id m t .idle (expiredLevel t.level) true).note env id
        (.task m (expiredLevel t.level) 0 t.done t.total) := by
  have hback := Yard.freeMover_returnTask (env := env) (st := .idle) (level := expiredLevel t.level) (mark := true) ht hmover
    (Task.loads_posted hkind) (Task.unmoved_nil hnone)
  have hlevel : y.returnLevel t (expiredLevel t.level) = expiredLevel t.level := by rw [Floor.returnLevel, hdep]
  simp only [Yard.expireTask, ht, hback, hlevel, hmover, hdep, hkind, reduceCtorEq, if_false, Option.getD_some,
    Option.getD_none, Nat.sub_zero]

/-- Settles O43. -/
theorem expiryRaisesTheLevelAndMarks : Obligations.ExpiryRaisesTheLevelAndMarks := by
  intro s id m rest t hturn ht hkind hnone hdep hmover
  have hexpire : s.toRun.yard.expireWatched s.toRun.env id = _ :=
    (congrArg (Yard.watch · s.toRun.env s.floor) (Yard.expireTask_bare ht hmover hkind hnone hdep)).trans
      (Yard.watch_lanes rfl)
  have hstep := State.onRun_expiryStep hturn hexpire
  rw [State.workLeft_expiry] at hstep
  exact ⟨_, congrArg Host.Outcome.next hstep, Tab.at_set_same .., fun k hk => Tab.at_set_other _ _ _ hk,
    Tab.get_put_same .., fun k hk => Tab.get_put_other _ _ hk, moveQueue_at s.floor.queues t.level _ id, rfl, rfl⟩

/-! ## POST TASK, R93, R113 -/

/-- POST TASK past the checks of its fields, while the night is OPEN. -/
theorem answerPostTask_inRange {body : List Byte} {env : Env} {y : Yard} {src dst : Loc} (hlen : body.length = 10)
    (hopen : env.isOpen = true) (hsrc : postedLoc body 1 = some src) (hdst : postedLoc body 5 = some dst)
    (hlevel : u8 body 0 ≤ 7) (h1 : 1 ≤ u8 body 9) (h16 : u8 body 9 ≤ 16) :
    answerPostTask body env y =
      if y.poolFull then .refused .full
      else .done (le16 y.allocId) (y.addTask (newTask .posted (u8 body 0) src dst [] (u8 body 9) none)) := by
  have hrange : ¬(7 < u8 body 0 ∨ u8 body 9 < 1 ∨ 16 < u8 body 9) := by omega
  simp only [answerPostTask, hlen, ne_eq, not_true_eq_false, if_false, hsrc, hdst, hrange, needsNight_open hopen,
    Yard.createTask]
  cases y.poolFull <;> rfl

theorem Floor.poolFull_iff {f : Floor} : f.poolFull = true ↔ 1024 ≤ f.tasks.size := decide_eq_true_iff

/-- Settles O44. -/
theorem postTaskCreatesOneTask : Obligations.PostTaskCreatesOneTask := by
  intro s u tag body src dst hu hlen hopen hsrc hdst hlevel h1 h16
  have answer := answerPostTask_inRange (env := u.toRun.env) (y := u.toRun.yard) hlen hopen hsrc hdst hlevel h1 h16
  refine ⟨fun hfull => ?full, fun hroom => ?created⟩
  case full =>
    exact congrArg Host.Outcome.next (takeRequest_asYard_refused hu (answer.trans (if_pos (Floor.poolFull_iff.mpr hfull))))
  case created =>
    have hnot : ¬u.floor.poolFull = true := fun hfull => Nat.not_lt.mpr (Floor.poolFull_iff.mp hfull) hroom
    exact congrArg Host.Outcome.next (takeRequest_asYard hu (answer.trans (if_neg hnot)))

/-! ## DISPATCH HOLD, R96, R114 -/

theorem flagOfCode_none {n : Nat} (h : 1 < n) : flagOfCode n = none := by
  obtain ⟨k, rfl⟩ : ∃ k, n = k + 2 := ⟨n - 2, by omega⟩
  rfl

/-- A byte that is no flag is out of range, R181. -/
theorem answerDispatchHold_range {c : Byte} {env : Env} {y : Yard} (h : 1 < c.toNat) :
    answerDispatchHold [c] env y = .refused .range := by
  have hflag : flagOfCode (u8 [c] 0) = none := flagOfCode_none h
  simp [answerDispatchHold, hflag]

theorem answerDispatchHold_flag (on : Bool) (env : Env) (y : Yard) :
    answerDispatchHold (flag8 on) env y = .done (flag8 y.dispatchHold) { y with dispatchHold := on } := by
  cases on <;> rfl

/-- Dispatch hold is the first condition of R96 that is tested. -/
theorem Floor.ineligible_of_hold {f : Floor} (h : f.dispatchHold = true) (env : Env) (t : Task) :
    f.ineligible env t = some .dispatchHold := if_pos h

/-- Settles O45. -/
theorem dispatchHoldSetsTheFlag : Obligations.DispatchHoldSetsTheFlag := by
  refine ⟨fun s u tag body hu => ⟨fun hlen => ?format, fun c hbody hc => ?range, fun on hbody => ?set⟩,
    fun f env t hhold => Floor.ineligible_of_hold hhold env t⟩
  case format => exact congrArg Host.Outcome.next (takeRequest_asYard_refused hu (if_pos hlen))
  case range =>
    subst hbody
    exact congrArg Host.Outcome.next (takeRequest_asYard_refused hu (answerDispatchHold_range hc))
  case set =>
    subst hbody
    exact congrArg Host.Outcome.next (takeRequest_asYard hu (answerDispatchHold_flag on u.toRun.env u.toRun.yard))

end Sys2Proof.Machine

namespace Sys2Proof.Machine

/-! ## The hand-over of a door for which no departure waits, R33 -/

/-- No waiting departure has an active plan entry that names door `n`. -/
theorem Floor.firstWaiting_eq_none_iff {f : Floor} {env : Env} {n : Nat} :
    f.firstWaiting env n = none ↔ ∀ d ∈ f.waiting, ∀ e, env.plan.departures.get d = some e → e.door ≠ n := by
  rw [Floor.firstWaiting, List.find?_eq_none]
  refine forall₂_congr fun d _ => ?_
  rw [Env.depEntry]
  cases env.plan.departures.get d <;> simp

theorem Yard.handOver_none {y : Yard} {env : Env} {n : Nat} (h : y.firstWaiting env n = none) : y.handOver env n = y := by
  simp [Yard.handOver, h]

/-! ## CHANGEOVER END, R123 -/

/-- The end of a changeover whose door no departure waits for changes the door's underlying state alone. -/
theorem Yard.endChangeover_unclaimed {y : Yard} {env : Env} {n : Nat} (h : y.firstWaiting env n = none) :
    y.endChangeover env n = y.setDoor n { y.door n with underlying := .outboundFree } := by
  unfold Yard.endChangeover
  cases (y.door n).faulted with
  | true => rfl
  | false => exact Yard.handOver_none h

/-- A changeover whose end has come ends in the turn of the doors (log 3, 5). -/
theorem State.onRun_doorStep {s : State} {n : Nat} {y : Yard} (hmay : s.toRun.mayTake .doors = true)
    (hdue : s.floor.changeoverDue s.clock.minute n = true) (hy : s.toRun.yard.endChangeover s.toRun.env n = y) :
    s.onRun (fun r => r.doorStep n) =
      { s.withFloor y.toFloor y.notes with work := s.workLeft y.toFloor .doors .doors } := by
  have hdue' : s.toRun.yard.changeoverDue s.toRun.clock.minute n = true := hdue
  subst hy
  simp only [State.onRun, Run.doorStep, hmay, hdue', Bool.and_self, if_true]
  rfl

/-- Settles O53. -/
theorem changeoverEndFreesTheDoor : Obligations.ChangeoverEndFreesTheDoor := by
  intro s n hmay hdue hunclaimed f hf
  subst hf
  have hnone : s.toRun.yard.firstWaiting s.toRun.env n = none := Floor.firstWaiting_eq_none_iff.mpr hunclaimed
  exact congrArg Host.Outcome.next (State.onRun_doorStep hmay hdue (Yard.endChangeover_unclaimed hnone))

/-! ## DOOR FAULT, DOOR CLEAR and DOOR RESUME, R124, R126, R127 -/

/-- A release after which no hand-over takes place clears the flag FAULTED alone. -/
theorem Yard.releaseDoor_unclaimed {y : Yard} {env : Env} {n : Nat}
    (h : y.firstWaiting env n = none ∨ (y.door n).underlying ≠ .outboundFree) :
    y.releaseDoor env n = y.setDoor n { y.door n with faulted := false } := by
  rw [Yard.releaseDoor, ite_eq_right_iff]
  rintro ⟨hfree, -⟩
  exact Yard.handOver_none (h.resolve_right (not_not.mpr hfree))

theorem Floor.firstWaiting_nil {f : Floor} (env : Env) (n : Nat) (h : f.waiting = []) : f.firstWaiting env n = none := by
  simp [Floor.firstWaiting, h]

/-- A door whose underlying state is what it was has been handed to nobody, R127. -/
theorem handedTo_same (w : Underlying) : handedTo w w = 0 := by cases w <;> rfl

section

variable {n : Byte} {env : Env} {y : Yard} (h1 : 1 ≤ n.toNat) (h32 : n.toNat ≤ 32)

include h1 h32

theorem answerDoorFault_inRange : answerDoorFault [n] env y =
    .done (le8 (y.door n.toNat).underlying.code ++ flag8 (y.door n.toNat).condition)
      (y.setDoor n.toNat
        { y.door n.toNat with faulted := true, condition := true, faultMinute := some env.minute }) :=
  numbered_in h1 h32

theorem answerDoorClear_inRange : answerDoorClear [n] env y =
    .done (flag8 (y.door n.toNat).condition ++
        le8 (if (y.door n.toNat).faulted then (env.plan.doorEntry n.toNat).mode.releaseCode else 0))
      (y.setDoor n.toNat { y.door n.toNat with condition := false }) :=
  numbered_in h1 h32

theorem answerDoorResume_refused (h : (y.door n.toNat).faulted = false ∨ (y.door n.toNat).condition = true) :
    answerDoorResume [n] env y = .refused .state :=
  (numbered_in h1 h32).trans (if_pos h)

/-- A release that hands the door to nobody answers with the underlying state and departure 0, R127. -/
theorem answerDoorResume_unclaimed (hfault : (y.door n.toNat).faulted = true)
    (hclear : (y.door n.toNat).condition = false)
    (hunclaimed : y.firstWaiting env n.toNat = none ∨ (y.door n.toNat).underlying ≠ .outboundFree) :
    answerDoorResume [n] env y =
      .done (le8 (y.door n.toNat).underlying.code ++ [0#8])
        (y.setDoor n.toNat { y.door n.toNat with faulted := false }) := by
  have hrelease : ¬((y.door n.toNat).faulted = false ∨ (y.door n.toNat).condition = true) := by simp [hfault, hclear]
  rw [answerDoorResume, numbered_in h1 h32, if_neg hrelease, Yard.releaseDoor_unclaimed hunclaimed]
  simp only [Floor.door_setDoor, handedTo_same]
  rfl

end

/-- Settles O52. -/
theorem doorFaultsAreSetClearedAndReleased : Obligations.DoorFaultsAreSetClearedAndReleased := by
  refine ⟨fun s u tag n h1 h32 => ⟨fun hu => ?fault, fun hu => ?clear⟩,
    fun s u tag n hu h1 h32 => ⟨fun hnot => ?refused, fun hfault hclear hunclaimed => ?released⟩⟩
  case fault => exact congrArg Host.Outcome.next (takeRequest_asYard hu (answerDoorFault_inRange h1 h32))
  case clear => exact congrArg Host.Outcome.next (takeRequest_asYard hu (answerDoorClear_inRange h1 h32))
  case refused =>
    exact congrArg Host.Outcome.next (takeRequest_asYard_refused hu (answerDoorResume_refused h1 h32 hnot))
  case released =>
    have hnobody := hunclaimed.imp_left (Floor.firstWaiting_nil (f := u.floor) u.toRun.env n.toNat)
    exact congrArg Host.Outcome.next
      (takeRequest_asYard hu (answerDoorResume_unclaimed (y := u.toRun.yard) h1 h32 hfault hclear hnobody))

end Sys2Proof.Machine

namespace Sys2Proof.Machine

/-! ## One entry and the outcomes of an update point, R141 -/

/-- A rejected or repeated entry leaves its PLAN NOTE alone, R141, R150. -/
theorem Run.takeEntry_noted {r : Run} {cause : UpdateCause} {e : PlanEntry}
    (h : (rejectEntry r.plan.active r.clock.isOpen r.yard.toFloor e).isSome = true ∨ r.plan.active.repeats e = true) :
    r.takeEntry cause e =
      { r with yard := r.yard.note r.env e.number (.plan e.kind cause e.isWithdrawal
          (rejectEntry r.plan.active r.clock.isOpen r.yard.toFloor e)) } :=
  if_pos (Bool.or_eq_true_iff.mpr h)

/-- Any other entry enters the active copy and has its effects on the floor, R141. -/
theorem Run.takeEntry_applied {r : Run} {cause : UpdateCause} {e : PlanEntry} {y : Yard}
    (hreject : rejectEntry r.plan.active r.clock.isOpen r.yard.toFloor e = none)
    (hrepeat : r.plan.active.repeats e = false)
    (hy : (r.yard.note r.env e.number (.plan e.kind cause e.isWithdrawal none)).applyEntry r.plan.active
      { r.env with plan := r.plan.active.apply e } e = y) :
    r.takeEntry cause e = { r with plan := { r.plan with active := r.plan.active.apply e }, yard := y } := by
  subst hy
  simp [Run.takeEntry, hreject, hrepeat, Run.env]

theorem rejectEntry_repeats {p : ActivePlan} {o : Bool} {f : Floor} {e : PlanEntry} (h : p.repeats e = true) :
    rejectEntry p o f e = none := if_pos h

theorem takeEntries_entries (cause : UpdateCause) (es : List PlanEntry) (r : Run) :
    (takeEntries cause es r).1.map (·.1) = es := by
  induction es generalizing r with
  | nil => rfl
  | cons e es ih => exact congrArg (e :: ·) (ih (r.takeEntry cause e))

theorem Outcomes.applied_add_rejected (o : Outcomes) : o.applied + o.rejected = o.length := by
  simpa [Outcomes.applied, Outcomes.rejected] using (List.length_eq_length_filter_add (l := o) (·.2.isNone)).symm

/-- The examination of departures that may end an update point leaves the plan store alone. -/
theorem Run.updatePoint_plan (r : Run) (cause : UpdateCause) : (r.updatePoint cause).2.plan =
    (takeEntries cause r.plan.shadow.entries { r with plan := { r.plan with shadow := .empty } }).2.plan := by
  unfold Run.updatePoint
  simp only
  split <;> rfl

/-- An update point leaves no entry pending and keeps the method, R131, R138. -/
theorem Run.updatePoint_store (r : Run) (cause : UpdateCause) :
    (r.updatePoint cause).2.plan.shadow = .empty ∧ (r.updatePoint cause).2.plan.method = r.plan.method := by
  obtain ⟨-, -, -, hshadow, hmethod⟩ :=
    takeEntries_frame cause r.plan.shadow.entries { r with plan := { r.plan with shadow := .empty } }
  rw [r.updatePoint_plan cause]
  exact ⟨hshadow, hmethod⟩

theorem Run.updatePoint_entries (r : Run) (cause : UpdateCause) :
    (r.updatePoint cause).1.map (·.1) = r.plan.shadow.entries := takeEntries_entries _ _ _

theorem Run.updatePoint_counts (r : Run) (cause : UpdateCause) :
    (r.updatePoint cause).1.applied + (r.updatePoint cause).1.rejected = r.plan.shadow.count := by
  rw [Outcomes.applied_add_rejected, ← List.length_map (·.1), r.updatePoint_entries, Shadow.count]

/-- Settles O20, by induction on the entries taken. -/
theorem updatePointTakesEveryEntry : Obligations.UpdatePointTakesEveryEntry := by
  intro r cause
  obtain ⟨hshadow, hmethod⟩ := r.updatePoint_store cause
  exact ⟨r.updatePoint_entries cause, r.updatePoint_counts cause, by rw [hshadow]; rfl, hmethod,
    (r.updatePoint_frame cause).1⟩

/-- Settles O21. -/
theorem rejectedEntriesChangeNothing : Obligations.RejectedEntriesChangeNothing := by
  refine ⟨fun r cause e h => ?changes, fun p o f e h => rejectEntry_repeats h, fun p o f n c hdiffers => ?lane⟩
  case changes =>
    rw [Run.takeEntry_noted h]
    exact ⟨rfl, rfl, rfl, by simp⟩
  case lane =>
    have hrepeat : ¬p.repeats (.lane n c) = true := fun h => hdiffers (beq_iff_eq.mp h)
    have hreject : rejectEntry p o f (.lane n c) = rejectLane f n c := if_neg hrepeat
    rw [hreject, rejectLane]
    split <;> simp [*]

/-! ## SET METHOD and ACTIVATE, R137, R139 -/

theorem UpdateMethod.ofCode_none {n : Nat} (h : 3 < n) : UpdateMethod.ofCode n = none := by
  match n, h with
  | _ + 4, _ => rfl

theorem answerSetMethod_range {c : Byte} {r : Run} (h : 3 < c.toNat) : answerSetMethod [c] r = .refused .range := by
  have hcode : UpdateMethod.ofCode (u8 [c] 0) = none := UpdateMethod.ofCode_none h
  simp [answerSetMethod, hcode]

theorem answerSetMethod_code (m : UpdateMethod) (r : Run) :
    answerSetMethod (le8 m.code) r = .done (le8 r.plan.method.code) { r with plan := { r.plan with method := m } } := by
  have hcode : UpdateMethod.ofCode (u8 (le8 m.code) 0) = some m := by cases m <;> rfl
  simp [answerSetMethod, hcode]
  rfl

/-- Settles O22. -/
theorem setMethodIsInForceAtOnce : Obligations.SetMethodIsInForceAtOnce := by
  refine fun s u tag body hu => ⟨fun hlen => ?format, fun c hbody hc => ?range, fun m hbody => ?set⟩
  case format => exact congrArg Host.Outcome.next (takeRequest_asRun_refused hu (if_pos hlen))
  case range =>
    subst hbody
    exact congrArg Host.Outcome.next (takeRequest_asRun_refused hu (answerSetMethod_range hc))
  case set =>
    subst hbody
    exact congrArg Host.Outcome.next (takeRequest_asRun hu (answerSetMethod_code m u.toRun))

/-- ACTIVATE answers with what its update point applied and rejected; none is pending then, R139. -/
theorem answerActivate_empty {r : Run} {o : Outcomes} {r' : Run} (h : r.updatePoint .activate = (o, r')) :
    answerActivate [] r = .done (le16 o.applied ++ le16 o.rejected ++ [0#8, 0#8]) r' := by
  have hshadow : r'.plan.shadow = .empty := by simpa [h] using (r.updatePoint_store .activate).1
  simp [answerActivate, h, hshadow]
  rfl

theorem Run.updatePoint_idle {r : Run} (cause : UpdateCause) (h : r.plan.shadow = .empty) :
    r.updatePoint cause = ([], r) := by
  obtain ⟨clock, ⟨method, active, shadow⟩, yard, work, draws⟩ := r
  subst h
  rfl

/-- Settles O23. -/
theorem activateMakesAnUpdatePoint : Obligations.ActivateMakesAnUpdatePoint := by
  refine fun s u tag body hu => ⟨fun hbody => ?format, fun o r hbody hpoint => ?point⟩
  case format =>
    exact congrArg Host.Outcome.next
      (takeRequest_asRun_refused hu (if_pos fun h => hbody (List.eq_nil_of_length_eq_zero h)))
  case point =>
    subst hbody
    obtain ⟨hshadow, -⟩ := u.toRun.updatePoint_store .activate
    have hcounts := u.toRun.updatePoint_counts .activate
    rw [hpoint] at hshadow hcounts
    refine ⟨congrArg Host.Outcome.next (takeRequest_asRun hu (answerActivate_empty hpoint)), by rw [hshadow]; rfl,
      hcounts, fun hempty => ?_⟩
    exact congrArg Host.Outcome.next
      (takeRequest_asRun hu (answerActivate_empty (u.toRun.updatePoint_idle .activate hempty)))

/-! ## The state after a full reset -/

/-- Settles O60. -/
theorem resetIsWithinAllBounds : Obligations.ResetIsWithinAllBounds :=
  ⟨rfl, by decide, rfl, rfl, by decide⟩

end Sys2Proof.Machine

namespace Sys2Proof.Machine

/-! ## The common course of the SET requests, R132 -/

section

variable {kind tag : Byte} {body : List Byte} {lengthOk : Bool} {entry : Option PlanEntry} {s u : State}
  (hu : s.taken { kind := kind, tag := tag, body := body } = some u)

include hu

theorem takeRequest_set_format (h : lengthOk = false) :
    takeRequest kind tag body (asRun (answerSet lengthOk entry)) s = u.replyRefused kind tag .format :=
  takeRequest_asRun_refused hu (if_pos h)

theorem takeRequest_set_range (hlen : lengthOk = true) (hentry : entry = none) :
    takeRequest kind tag body (asRun (answerSet lengthOk entry)) s = u.replyRefused kind tag .range :=
  takeRequest_asRun_refused hu (by simp [answerSet, hlen, hentry])

/-- Where a SET request is no update point, its entry becomes pending and nothing else changes, R131, R132. -/
theorem next_set_waits {e : PlanEntry} (hlen : lengthOk = true) (hentry : entry = some e)
    (hopen : u.clock.isOpen = true) (hmethod : u.plan.method ≠ .immediate) :
    Host.Outcome.next (φ := Fault) (ρ := Refusal) (takeRequest kind tag body (asRun (answerSet lengthOk entry)) s) =
      .next ({ u with plan := { u.plan with shadow := u.plan.shadow.write e } }.replyDone kind tag
        (flag8 (u.plan.shadow.pendingFor e) ++ List.replicate 7 0#8 ++ le16 (u.plan.shadow.write e).count)) := by
  have hwaits : u.toRun.writeUpdates = false := by simp [Run.writeUpdates, hopen, hmethod]
  have hanswer : answerSet lengthOk entry u.toRun =
      .done (flag8 (u.plan.shadow.pendingFor e) ++ List.replicate 7 0#8 ++ le16 (u.plan.shadow.write e).count)
        { u.toRun with plan := { u.plan with shadow := u.plan.shadow.write e } } := by
    simp only [answerSet, hlen, hentry, Run.write, hwaits]
    simp
    rfl
  exact congrArg Host.Outcome.next (takeRequest_asRun hu hanswer)

end

/-- The two refusals of a SET request whose body has a fixed length, as a command gives them, R132. -/
theorem next_set_refused {kind tag : Byte} {body : List Byte} {n : Nat} {entry : Option PlanEntry} {s u : State}
    (hu : s.taken { kind := kind, tag := tag, body := body } = some u) :
    (body.length ≠ n → Host.Outcome.next (φ := Fault) (ρ := Refusal)
      (takeRequest kind tag body (asRun (answerSet (body.length == n) entry)) s) =
        .next (u.replyRefused kind tag .format)) ∧
    (body.length = n → entry = none → Host.Outcome.next (φ := Fault) (ρ := Refusal)
      (takeRequest kind tag body (asRun (answerSet (body.length == n) entry)) s) =
        .next (u.replyRefused kind tag .range)) :=
  ⟨fun hlen => congrArg Host.Outcome.next (takeRequest_set_format hu (beq_false_of_ne hlen)),
    fun hlen hentry => congrArg Host.Outcome.next (takeRequest_set_range hu (beq_iff_eq.mpr hlen) hentry)⟩

/-! ## The ranges of SET NIGHT, SET DOOR and SET LANE, R133 -/

@[simp] theorem inRange_iff {lo hi n : Nat} : inRange lo hi n = true ↔ lo ≤ n ∧ n ≤ hi := by simp [inRange]

theorem readNight_bytes (w m t : Byte) : readNight [w, m, t] =
    if 15 ≤ w.toNat ∧ w.toNat ≤ 120 ∧ m.toNat ≤ 60 ∧ 1 ≤ t.toNat ∧ t.toNat ≤ 60 then
      some (.night { waveLength := w.toNat, lateMargin := m.toNat, taskLimit := t.toNat })
    else none := by
  simp [readNight, u8, and_assoc]

theorem readLane_bytes (l c : Byte) : readLane [l, c] =
    if 2 ≤ l.toNat ∧ l.toNat ≤ 65 ∧ 1 ≤ c.toNat ∧ c.toNat ≤ 40 then some (.lane l.toNat c.toNat) else none := by
  simp [readLane, u8, and_assoc]

theorem DoorRole.ofCode_isSome (n : Nat) : (DoorRole.ofCode n).isSome = true ↔ n ≤ 2 := by
  match n with
  | 0 | 1 | 2 => decide
  | n + 3 => simp [DoorRole.ofCode]

theorem FaultMode.ofCode_isSome (n : Nat) : (FaultMode.ofCode n).isSome = true ↔ n ≤ 1 := by
  match n with
  | 0 | 1 => decide
  | n + 2 => simp [FaultMode.ofCode]

theorem readDoor_isSome (d r g m : Byte) : (readDoor [d, r, g, m]).isSome = true ↔
    1 ≤ d.toNat ∧ d.toNat ≤ 32 ∧ r.toNat ≤ 2 ∧ g.toNat ≤ 60 ∧ m.toNat ≤ 1 := by
  rw [← DoorRole.ofCode_isSome, ← FaultMode.ofCode_isSome]
  have hr : u8 [d, r, g, m] 1 = r.toNat := rfl
  have hm : u8 [d, r, g, m] 3 = m.toNat := rfl
  rw [readDoor, hr, hm]
  cases DoorRole.ofCode r.toNat with
  | none => simp
  | some role =>
    cases FaultMode.ofCode m.toNat with
    | none => simp
    | some mode => simp [u8, and_assoc]

/-- Settles O18. -/
theorem planWritesWaitInTheShadow : Obligations.PlanWritesWaitInTheShadow := by
  refine ⟨fun s u w tag body result e hopen hmethod hw hresult => ?waits, readNight_bytes, readLane_bytes,
    readDoor_isSome, fun s u tag body => ?refused⟩
  case waits =>
    subst hw hresult
    have fixed {kind : Byte} {n : Nat} {entry : Option PlanEntry} (hlen : body.length = n) (hentry : entry = some e)
        (hu : s.taken { kind := kind, tag := tag, body := body } = some u) :=
      next_set_waits hu (beq_iff_eq.mpr hlen) hentry hopen hmethod
    exact ⟨fixed, fixed, fixed, fixed, fixed, fun hlen hentry hu => next_set_waits hu hlen hentry hopen hmethod⟩
  case refused =>
    exact ⟨next_set_refused, next_set_refused, next_set_refused, next_set_refused, next_set_refused, fun hu =>
      ⟨fun hlen => congrArg Host.Outcome.next (takeRequest_set_format hu hlen),
        fun hlen hentry => congrArg Host.Outcome.next (takeRequest_set_range hu hlen hentry)⟩⟩

end Sys2Proof.Machine

namespace Sys2Proof.Machine

/-! ## No ground for rejection, R143 to R149 -/

theorem ActivePlan.mem_usersOf {p : ActivePlan} (hwf : p.departures.wf = true) {n c : Nat} {x : DepartureEntry} :
    (c, x) ∈ p.usersOf n ↔ p.departures.get c = some x ∧ x.profile = n := by
  rw [ActivePlan.usersOf, List.mem_filter, Tab.mem_iff_get hwf, beq_iff_eq]

theorem rejectProfile_none {p : ActivePlan} {f : Floor} {n : Nat} {e : Profile} (hwf : p.departures.wf = true)
    (h : ∀ c x, p.departures.get c = some x → x.profile = n →
      (f.deck c).isEmpty = true ∧ (x.drop2 = none ∨ x.split < e.rows)) : rejectProfile p f n e = none := by
  have hused : ¬((p.usersOf n).any fun c => f.deckInUse c.1) = true := by
    rw [List.any_eq_true]
    rintro ⟨⟨c, x⟩, hc, huse⟩
    obtain ⟨hget, hn⟩ := (ActivePlan.mem_usersOf hwf).mp hc
    simp [Floor.deckInUse, (h c x hget hn).1] at huse
  have hsplit : ¬((p.usersOf n).any fun c => c.2.drop2.isSome && decide (e.rows ≤ c.2.split)) = true := by
    rw [List.any_eq_true]
    rintro ⟨⟨c, x⟩, hc, hbeyond⟩
    obtain ⟨hget, hn⟩ := (ActivePlan.mem_usersOf hwf).mp hc
    rcases (h c x hget hn).2 with hone | hrows
    · simp [hone] at hbeyond
    · simp [Nat.not_le.mpr hrows] at hbeyond
  exact (if_neg hused).trans (if_neg hsplit)

theorem rejectDoor_none {p : ActivePlan} {f : Floor} {n : Nat} {e : DoorEntry}
    (h : (f.door n).underlying.isBusy = false) : rejectDoor p f n e = none :=
  if_neg fun hbusy => by simp [h] at hbusy

theorem rejectLane_none {f : Floor} {n c : Nat} (h : f.occupancy n ≤ c) : rejectLane f n c = none :=
  if_neg (Nat.not_lt.mpr h)

theorem rejectReferences_none {p : ActivePlan} {n : Nat} {e : DepartureEntry} {pr : Profile}
    (hprofile : p.profiles.get e.profile = some pr) (hdoor : p.doors.has e.door = true)
    (hlanes : ∀ l ∈ e.lanes, p.lanes.has l = true ∧ ∀ b, p.binding l = some b → b.1 = n) (hroles : e.lanes.Nodup)
    (htimes : e.call < e.cut) (hsplit : e.drop2 = none ∨ e.split < pr.rows) : rejectReferences p n e = none := by
  have hhas : p.profiles.has e.profile = true := by simp [Tab.has, hprofile]
  have hpresent : (e.lanes.any fun l => !p.lanes.has l) = false := by
    rw [List.any_eq_false]
    exact fun l hl => by simp [(hlanes l hl).1]
  have hbound : (e.lanes.any fun l => (p.binding l).any fun b => b.1 != n) = false := by
    rw [List.any_eq_false]
    intro l hl
    cases hb : p.binding l with
    | none => simp
    | some b => simp [(hlanes l hl).2 b hb]
  have hrows : (e.drop2.isSome && decide (pr.rows ≤ e.split)) = false := by
    rcases hsplit with hone | hrows
    · simp [hone]
    · simp [Nat.not_le.mpr hrows]
  simp [rejectReferences, hhas, hdoor, hpresent, Nat.not_le.mpr htimes, hprofile, hrows,
    hasRepeat_eq_false_iff.mpr hroles, hbound]

theorem rejectWithdrawal_none {p : ActivePlan} {f : Floor} {n : Nat} (hhas : p.departures.has n = true)
    (hclosed : (f.departure n).state = .closed) : rejectWithdrawal p f n = none := by
  simp [rejectWithdrawal, hhas, hclosed]

theorem rejectRoute_none {p : ActivePlan} {depot : Nat} {list : List Nat}
    (h : ∀ d ∈ list, ∃ x, p.departures.get d = some x ∧ (x.drop1 = depot ∨ x.drop2 = some depot)) :
    rejectRoute p depot list = none := by
  refine if_neg ?_
  rw [List.any_eq_true]
  rintro ⟨d, hd, hno⟩
  obtain ⟨x, hx, hserves⟩ := h d hd
  simp [hx] at hno
  tauto

/-! ## The effects of an applied entry, R143 to R148 -/

/-- The deck maps once those of the departures that name profile `n` are empty and sized by `rows` rows, R143. -/
def ActivePlan.sizedDecks (p : ActivePlan) (n rows : Nat) (decks : Tab Deck) : Tab Deck :=
  (p.usersOf n).foldl (fun t c => t.put c.1 (Deck.blank (2 * rows))) decks

theorem Tab.at_foldl_put {α β : Type} (d v : α) (cs : List (Nat × β)) (t : Tab α) (k : Nat) :
    Tab.at d (cs.foldl (fun t c => t.put c.1 v) t) k = if k ∈ cs.map (·.1) then v else Tab.at d t k := by
  induction cs generalizing t with
  | nil => rfl
  | cons c cs ih =>
    rw [List.foldl_cons, ih]
    by_cases hk : k = c.1
    · simp [hk]
    · exact if_congr (by simp [hk]) rfl (Tab.at_put_other _ _ _ hk)

theorem ActivePlan.at_sizedDecks {p : ActivePlan} (hwf : p.departures.wf = true) (n rows : Nat) (decks : Tab Deck) :
    (∀ c x, p.departures.get c = some x → x.profile = n →
      Tab.at (Deck.blank 0) (p.sizedDecks n rows decks) c = Deck.blank (2 * rows)) ∧
    ∀ c, (∀ x, p.departures.get c = some x → x.profile ≠ n) →
      Tab.at (Deck.blank 0) (p.sizedDecks n rows decks) c = Tab.at (Deck.blank 0) decks c := by
  have huser (c : Nat) : c ∈ (p.usersOf n).map (·.1) ↔ ∃ x, p.departures.get c = some x ∧ x.profile = n := by
    simp [ActivePlan.mem_usersOf hwf]
  refine ⟨fun c x hx hn => ?_, fun c hother => ?_⟩ <;> rw [ActivePlan.sizedDecks, Tab.at_foldl_put]
  · exact if_pos ((huser c).mpr ⟨x, hx, hn⟩)
  · refine if_neg fun hc => ?_
    obtain ⟨x, hx, hn⟩ := (huser c).mp hc
    exact hother x hx hn

theorem Yard.foldl_sizeDeck {env : Env} {k : Nat} : ∀ {cs : List (Nat × DepartureEntry)} {y : Yard},
    (∀ c ∈ cs, env.positions c.1 = k) → cs.foldl (fun z c => z.sizeDeck env c.1) y =
      { y with decks := cs.foldl (fun t c => t.put c.1 (Deck.blank k)) y.decks }
  | [], _, _ => rfl
  | c :: cs, y, h => by
    have hfirst : y.sizeDeck env c.1 = y.setDeck c.1 (Deck.blank k) := by
      rw [Yard.sizeDeck, h c List.mem_cons_self]
    rw [List.foldl_cons, hfirst, Yard.foldl_sizeDeck fun x hx => h x (List.mem_cons_of_mem c hx)]
    rfl

/-- A new profile sizes the deck maps of the departures that name it, R143. -/
theorem Yard.applyEntry_profile {y : Yard} {p : ActivePlan} {env : Env} {n : Nat} {e : Profile}
    (hwf : p.departures.wf = true) (henv : env.plan = p.apply (.profile n e)) :
    y.applyEntry p env (.profile n e) = { y with decks := p.sizedDecks n e.rows y.decks } := by
  have husers : env.plan.usersOf n = p.usersOf n := by rw [henv]; rfl
  rw [Yard.applyEntry, husers]
  refine Yard.foldl_sizeDeck fun ⟨c, x⟩ hc => ?_
  obtain ⟨hx, hn⟩ := (ActivePlan.mem_usersOf hwf).mp hc
  have hentry : env.depEntry c = some x := by rw [Env.depEntry, henv]; exact hx
  have hprofile : env.plan.profiles.get x.profile = some e := by rw [henv, hn]; exact Tab.get_put_same ..
  rw [Env.positions, Env.profileOf_of_get hentry hprofile]
  rfl

/-- A new role gives its state at once; with no departure waiting the door is handed to nobody, R144. -/
theorem Yard.applyEntry_door {y : Yard} {p : ActivePlan} {env : Env} {n : Nat} {e : DoorEntry}
    (hwaiting : y.waiting = []) : y.applyEntry p env (.door n e) =
      { y with doors := if e.role = (p.doorEntry n).role then y.doors
          else y.doors.set Door.reset n { y.door n with underlying := e.role.underlying } } := by
  unfold Yard.applyEntry
  by_cases hrole : e.role = (p.doorEntry n).role
  · simp [hrole]
  · simp only [hrole, if_false]
    split
    · exact Yard.handOver_none (Floor.firstWaiting_nil env n hwaiting)
    · rfl

/-- A new departure gets a record CLOSED while the night is CLOSED, and an empty deck map, R147. -/
theorem Yard.applyEntry_newDeparture {y : Yard} {p : ActivePlan} {env : Env} {n : Nat} {e : DepartureEntry}
    {pr : Profile} (hnew : p.departures.get n = none) (hprofile : p.profiles.get e.profile = some pr)
    (hshut : env.isOpen = false) (henv : env.plan = p.apply (.departure n (.entry e))) :
    y.applyEntry p env (.departure n (.entry e)) =
      { y with
        departures := y.departures.put n (Departure.fresh .closed)
        decks := y.decks.put n (Deck.blank (2 * pr.rows)) } := by
  have hentry : env.depEntry n = some e := by rw [Env.depEntry, henv]; exact Tab.get_put_same ..
  have hrows : env.positions n = 2 * pr.rows := by
    rw [Env.positions, Env.profileOf_of_get hentry (by rw [henv]; exact hprofile)]
    rfl
  simp [Yard.applyEntry, hnew, hshut, Yard.sizeDeck, hrows]
  rfl

/-! ## A SET request while the night is CLOSED, R132, R138 -/

theorem Shadow.entries_write_empty (e : PlanEntry) : (Shadow.empty.write e).entries = [e] := by cases e <;> rfl

theorem Shadow.pendingFor_empty (e : PlanEntry) : Shadow.empty.pendingFor e = false := by cases e <;> rfl

/-- While the night is CLOSED no event of a departure is due, R29. -/
theorem Yard.examine_shut {y : Yard} {env : Env} (h : env.isOpen = false) : y.examine env = y := by
  refine Yard.examine_none fun d _ => ?_
  have hdue : y.dueEvents env d = [] := by
    unfold Floor.dueEvents
    split
    · rfl
    · simp [h]
  rw [Floor.nextDue, hdue]
  rfl

/-- While the night is CLOSED an update point does no more than take its entries. -/
theorem Run.updatePoint_shut {r : Run} (cause : UpdateCause) (h : r.clock.isOpen = false) : r.updatePoint cause =
    takeEntries cause r.plan.shadow.entries { r with plan := { r.plan with shadow := .empty } } := by
  obtain ⟨hclock, -⟩ := takeEntries_frame cause r.plan.shadow.entries { r with plan := { r.plan with shadow := .empty } }
  unfold Run.updatePoint
  refine Prod.ext rfl ?_
  dsimp only
  split
  · rw [Run.onYard, Yard.examine_shut (by rw [Run.env_isOpen, hclock]; exact h)]
  · rfl

/-- With nothing pending, a SET request that nothing rejects applies its entry alone. -/
theorem answerSet_shut {r : Run} {lengthOk : Bool} {entry : Option PlanEntry} {e : PlanEntry}
    (hlen : lengthOk = true) (hentry : entry = some e) (hshut : r.clock.isOpen = false)
    (hempty : r.plan.shadow = .empty)
    (hreject : rejectEntry r.plan.active r.clock.isOpen r.yard.toFloor e = none) :
    answerSet lengthOk entry r =
      .done [0#8, 1#8, 1#8, 0#8, 1#8, 0#8, 0#8, 0#8, 0#8, 0#8] (r.takeEntry .write e) := by
  have hupdates : r.writeUpdates = true := by simp [Run.writeUpdates, hshut]
  have hwrite : r.write e = ([(e, none)], r.takeEntry .write e) := by
    have htakes : r.write e = takeEntries .write (r.plan.shadow.write e).entries
        { r with plan := { r.plan with shadow := .empty } } := (if_pos hupdates).trans (Run.updatePoint_shut .write hshut)
    rw [htakes, hempty, Shadow.entries_write_empty, ← hempty]
    simp [takeEntries, hreject]
  have hshadow : (r.takeEntry .write e).plan.shadow = .empty := by
    obtain ⟨-, -, -, hkept, -⟩ := r.takeEntry_frame .write e
    rw [hkept, hempty]
  have hown : Outcomes.own [(e, none)] e = [1#8, 0#8] := by
    simp [Outcomes.own]
    rfl
  have happlied : Outcomes.applied [(e, none)] = 1 := rfl
  have hrejected : Outcomes.rejected [(e, none)] = 0 := rfl
  have hcount : Shadow.empty.count = 0 := rfl
  simp [answerSet, hlen, hentry, hwrite, hupdates, hempty, hshadow, hown, happlied, hrejected, hcount,
    Shadow.pendingFor_empty]
  rfl

/-- The state `u` once a SET request has applied the entry `e` and left the floor `f`, R141, R150. -/
def State.planned (u : State) (e : PlanEntry) (f : Floor) : State :=
  { u.withFloor f [u.report e.number (.plan e.kind .write e.isWithdrawal none)] with
    plan := { u.plan with active := u.plan.active.apply e } }

section

variable {kind tag : Byte} {body : List Byte} {lengthOk : Bool} {entry : Option PlanEntry} {s u : State}
  {e : PlanEntry} (hu : s.taken { kind := kind, tag := tag, body := body } = some u)
  (hlen : lengthOk = true) (hentry : entry = some e) (hshut : u.clock.isOpen = false)
  (hempty : u.plan.shadow = .empty)

include hu hlen hentry hshut hempty

/-- An entry that nothing rejects and that differs from the active one is applied at once, R132, R138, R141. -/
theorem next_set_applied {f : Floor} (hreject : rejectEntry u.plan.active false u.floor e = none)
    (hrepeat : u.plan.active.repeats e = false)
    (hfloor : ∀ (y : Yard) (env : Env), y.toFloor = u.floor → env.plan = u.plan.active.apply e →
      env.isOpen = false → y.applyEntry u.plan.active env e = { y with toFloor := f }) :
    Host.Outcome.next (φ := Fault) (ρ := Refusal) (takeRequest kind tag body (asRun (answerSet lengthOk entry)) s) =
      .next ((u.planned e f).replyDone kind tag [0#8, 1#8, 1#8, 0#8, 1#8, 0#8, 0#8, 0#8, 0#8, 0#8]) := by
  have hreject' : rejectEntry u.toRun.plan.active u.toRun.clock.isOpen u.toRun.yard.toFloor e = none := by
    simpa [hshut] using hreject
  rw [takeRequest_asRun hu (answerSet_shut hlen hentry hshut hempty hreject'),
    Run.takeEntry_applied hreject' hrepeat (hfloor _ _ rfl rfl hshut)]
  rfl

/-- An entry that repeats the active one leaves its PLAN NOTE alone, R141. -/
theorem next_set_repeated (hrepeat : u.plan.active.repeats e = true) :
    Host.Outcome.next (φ := Fault) (ρ := Refusal) (takeRequest kind tag body (asRun (answerSet lengthOk entry)) s) =
      .next ((u.withFloor u.floor [u.report e.number (.plan e.kind .write e.isWithdrawal none)]).replyDone kind tag
        [0#8, 1#8, 1#8, 0#8, 1#8, 0#8, 0#8, 0#8, 0#8, 0#8]) := by
  have hreject : rejectEntry u.toRun.plan.active u.toRun.clock.isOpen u.toRun.yard.toFloor e = none :=
    rejectEntry_repeats hrepeat
  rw [takeRequest_asRun hu (answerSet_shut hlen hentry hshut hempty hreject), Run.takeEntry_noted (.inr hrepeat),
    hreject]
  rfl

end

/-- A capacity that holds the lane's occupancy lowers a high limit above it, R145. -/
theorem next_setLane_applied {tag : Byte} {body : List Byte} {s u : State} {n c : Nat}
    (hshut : u.clock.isOpen = false) (hempty : u.plan.shadow = .empty) (hlen : body.length = 2)
    (hentry : readLane body = some (.lane n c)) (hdiffers : u.plan.active.lanes.get n ≠ some c)
    (hoccupancy : u.floor.occupancy n ≤ c) (hu : s.taken { kind := 0x23#8, tag := tag, body := body } = some u) :
    Host.Outcome.next (φ := Fault) (ρ := Refusal)
      (takeRequest 0x23#8 tag body (asRun (answerSet (body.length == 2) (readLane body))) s) =
      .next ((u.planned (.lane n c) { u.floor with
        lanes := u.floor.lanes.set Lane.reset n
          { u.floor.lane n with high := (u.floor.lane n).high.map fun h => min h c } }).replyDone 0x23#8 tag
        [0#8, 1#8, 1#8, 0#8, 1#8, 0#8, 0#8, 0#8, 0#8, 0#8]) := by
  have hrepeat : u.plan.active.repeats (.lane n c) = false := beq_false_of_ne hdiffers
  exact next_set_applied hu (beq_iff_eq.mpr hlen) hentry hshut hempty
    ((if_neg (ne_true_of_eq_false hrepeat)).trans (rejectLane_none hoccupancy)) hrepeat
    (by rintro ⟨f, notes⟩ env rfl henv hopen; rfl)

/-- Settles O19. -/
theorem planWritesApplyWhileClosed : Obligations.PlanWritesApplyWhileClosed := by
  intro s u tag body a reply hshut hempty hactive hreply
  subst hreply hactive
  refine ⟨fun e hlen hentry hu => ?night, fun n e hlen hentry hdiffers hwf hfits hu => ?profile,
    fun n e hlen hentry hdiffers hfree hwaiting hu => ?door,
    fun n c hlen hentry hnew hoccupancy hhigh hu => ?newLane,
    fun n c hlen hentry hdiffers hoccupancy hu => ?lane,
    fun n e pr hlen hentry hnew hprofile hdoor hlanes hroles htimes hsplit hu => ?departure,
    fun n hlen hentry hhas hclosed hu => ?withdrawal, fun n list hlen hentry hdiffers hserves hu => ?route⟩
  case night =>
    cases hrepeat : u.plan.active.repeats (.night e) with
    | false =>
      exact next_set_applied hu (beq_iff_eq.mpr hlen) hentry hshut hempty
        (if_neg (ne_true_of_eq_false hrepeat)) hrepeat
        (by rintro ⟨f, notes⟩ env rfl henv hopen; rfl)
    | true =>
      have hsame : u.plan.active.night = e := beq_iff_eq.mp hrepeat
      subst hsame
      exact next_set_repeated hu (beq_iff_eq.mpr hlen) hentry hshut hempty hrepeat
  case profile =>
    have hrepeat : u.plan.active.repeats (.profile n e) = false := beq_false_of_ne hdiffers
    obtain ⟨hsized, hkept⟩ := ActivePlan.at_sizedDecks hwf n e.rows u.floor.decks
    exact ⟨{ u.floor with decks := u.plan.active.sizedDecks n e.rows u.floor.decks },
      next_set_applied hu (beq_iff_eq.mpr hlen) hentry hshut hempty
        ((if_neg (ne_true_of_eq_false hrepeat)).trans (rejectProfile_none hwf hfits)) hrepeat
        (by rintro ⟨f, notes⟩ env rfl henv hopen; exact Yard.applyEntry_profile hwf henv),
      hsized, hkept, rfl⟩
  case door =>
    have hrepeat : u.plan.active.repeats (.door n e) = false := beq_false_of_ne hdiffers
    exact next_set_applied hu (beq_iff_eq.mpr hlen) hentry hshut hempty
      ((if_neg (ne_true_of_eq_false hrepeat)).trans (rejectDoor_none hfree)) hrepeat
      (by rintro ⟨f, notes⟩ env rfl henv hopen; exact Yard.applyEntry_door hwaiting)
  case newLane =>
    refine ⟨_, next_setLane_applied hshut hempty hlen hentry (by simp [hnew]) hoccupancy hu, rfl, fun l => ?_, rfl, rfl⟩
    by_cases hl : l = n
    · subst hl
      exact (Tab.at_set_same _ _ _ _).trans (by rw [hhigh, Option.map_none, ← hhigh])
    · exact Tab.at_set_other _ _ _ hl
  case lane => exact next_setLane_applied hshut hempty hlen hentry hdiffers hoccupancy hu
  case departure =>
    have hrepeat : u.plan.active.repeats (.departure n (.entry e)) = false :=
      beq_false_of_ne (by simp [hnew])
    have hreject : rejectDeparture u.plan.active false u.floor n e = none := by
      rw [rejectDeparture, hnew]
      exact rejectReferences_none hprofile hdoor hlanes hroles htimes hsplit
    exact next_set_applied hu (beq_iff_eq.mpr hlen) hentry hshut hempty
      ((if_neg (ne_true_of_eq_false hrepeat)).trans hreject) hrepeat
      (by rintro ⟨f, notes⟩ env rfl henv hopen; exact Yard.applyEntry_newDeparture hnew hprofile hopen henv)
  case withdrawal =>
    exact next_set_applied hu (beq_iff_eq.mpr hlen) hentry hshut hempty
      (rejectWithdrawal_none hhas hclosed) rfl
      (by rintro ⟨f, notes⟩ env rfl henv hopen; rfl)
  case route =>
    have hrepeat : u.plan.active.repeats (.route n list) = false := beq_false_of_ne hdiffers
    have hroute := next_set_applied hu hlen hentry hshut hempty
      ((if_neg (ne_true_of_eq_false hrepeat)).trans (rejectRoute_none hserves)) hrepeat
      (by rintro ⟨f, notes⟩ env rfl henv hopen; rfl)
    cases list with
    | nil => exact hroute
    | cons d ds => exact hroute

end Sys2Proof.Machine

namespace Sys2Proof.Machine

/-! ## The clock through the works of a minute, R154 to R156 -/

/-- Of the works of a minute only a wave boundary and the end of the clock touch the clock, R155, R156. -/
theorem Run.doItem_clock (r : Run) (i : WorkItem) :
    (r.doItem i).clock = r.clock ∨
    (∃ since m, i = .wave since ∧ r.clock.lastBoundary < m ∧ m ≤ r.clock.minute ∧
      (r.doItem i).clock = { r.clock with wave := r.clock.wave + 1, lastBoundary := m }) ∨
    (i = .endOfClock ∧ (r.doItem i).clock = { r.clock with endReached := true, second := 0 }) := by
  cases i with
  | departures => exact .inl rfl
  | expiry ids => exact .inl rfl
  | doors => exact .inl (r.endChangeovers_clock _)
  | wave since =>
    rcases r.testBoundary_clock since with hsame | ⟨m, hdue, hclock⟩
    · exact .inl hsame
    · obtain ⟨-, hlast, hminute⟩ := Run.boundaryDue_some hdue
      exact .inr (.inl ⟨since, m, rfl, hlast, hminute, hclock⟩)
  | syncUpdate => exact .inl (r.updatePoint_frame .sync).1
  | endOfClock => exact .inr (.inr ⟨rfl, rfl⟩)

theorem Run.doItem_keepsEnd {r : Run} {i : WorkItem} (h : r.clock.endReached = true) :
    (r.doItem i).clock.endReached = true := by
  rcases r.doItem_clock i with hc | ⟨_, _, -, -, -, hc⟩ | ⟨-, hc⟩
  · rw [hc]; exact h
  · rw [hc]; exact h
  · rw [hc]

/-- The boundary test hands over no work and takes none off. -/
theorem Run.testBoundary_work (r : Run) (since : Nat) : (r.testBoundary since).work = r.work := by
  have hupdate (q : Run) : q.boundaryUpdate.work = q.work := by
    unfold Run.boundaryUpdate
    split
    · exact (q.updatePoint_frame .boundary).2.1
    · rfl
  unfold Run.testBoundary
  split
  · unfold Run.takeBoundary Run.boundaryRelease
    simp only
    split
    · split <;> simp [hupdate]
    · simp [hupdate]
  · rfl

/-- Work of an item may be taken while no other item's work has begun. -/
theorem Run.started_ne_of_mayTake {r : Run} {i j : WorkItem} (h : r.mayTake i = true) (hne : j ≠ i) :
    r.work.started ≠ some j := by
  intro hstarted
  simp [Run.mayTake, hstarted, hne] at h

theorem Work.holds_iff {w : Work} {i : WorkItem} : w.holds i = true ↔ w.started = some i ∨ i ∈ w.waiting := by
  simp [Work.holds]

theorem mem_of_mem_takeable {items : List WorkItem} {i : WorkItem} (h : i ∈ takeable items) : i ∈ items := by
  unfold takeable at h
  split at h
  · exact List.mem_of_mem_filter h
  · exact h

/-- The end of the clock waits for departure control alone, R30: while it waits, some item may be taken. -/
theorem takeable_ne_nil {items : List WorkItem} (h : .endOfClock ∈ items) : takeable items ≠ [] := by
  unfold takeable
  split
  · rename_i hdepartures
    exact List.ne_nil_of_mem (a := .departures) (List.mem_filter.mpr ⟨by simpa using hdepartures, rfl⟩)
  · exact List.ne_nil_of_mem h

/-- One turn of completing what is outstanding: nothing is left to do, or some item that waits is taken whole. -/
theorem Run.settleItems_succ (r : Run) (n : Nat) :
    (takeable (r.liveItems r.work.waiting) = [] ∧ r.settleItems (n + 1) = { r with work := .clear }) ∨
    ∃ (q : Run) (i : WorkItem), i ∈ r.work.waiting ∧ q.clock = r.clock ∧
      r.settleItems (n + 1) =
        Run.settleItems { q.doItem i with
          work := { started := none, waiting := r.work.waiting.filter fun j => j != i } } n := by
  rw [Run.settleItems]
  split
  · exact .inl ⟨‹_›, rfl⟩
  · rename_i i rest hitems
    have hpick : (i :: rest).getD (r.draw (i :: rest).length).1 i ∈ i :: rest := by
      rw [List.getD_eq_getElem?_getD]
      cases hget : (i :: rest)[(r.draw (i :: rest).length).1]? with
      | none => exact List.mem_cons_self
      | some j => exact List.mem_of_getElem? hget
    have hwaits (j : WorkItem) (hj : j ∈ i :: rest) : j ∈ r.work.waiting :=
      (Run.mem_liveItems.mp (mem_of_mem_takeable (hitems ▸ hj))).1
    exact .inr ⟨_, _, hwaits _ hpick, r.draw_clock _, rfl⟩

/-- What every outstanding item keeps of the clock, completing them keeps. -/
theorem Run.settleItems_clock {P : Clock → Prop} (n : Nat) : ∀ {r : Run},
    (∀ (q : Run) (i : WorkItem), i ∈ r.work.waiting → P q.clock → P (q.doItem i).clock) → P r.clock →
      P (r.settleItems n).clock := by
  induction n with
  | zero => exact fun _ h => h
  | succ n ih =>
    intro r hitem h
    rcases r.settleItems_succ n with ⟨-, hdone⟩ | ⟨q, i, hi, hq, hnext⟩
    · rw [hdone]; exact h
    · rw [hnext]
      exact ih (fun q' j hj => hitem q' j (List.mem_of_mem_filter hj)) (hitem q i hi (by rw [hq]; exact h))

theorem Run.settleItems_keepsEnd (n : Nat) {r : Run} (h : r.clock.endReached = true) :
    (r.settleItems n).clock.endReached = true :=
  Run.settleItems_clock n (P := (·.endReached = true)) (fun _ _ _ => Run.doItem_keepsEnd) h

theorem Run.settle_clock {P : Clock → Prop} {r : Run}
    (hitem : ∀ (q : Run) (i : WorkItem), r.work.holds i = true → P q.clock → P (q.doItem i).clock) (h : P r.clock) :
    P r.settle.clock := by
  have hwaits q i hi := hitem q i (Work.holds_iff.mpr (.inr hi))
  unfold Run.settle
  split
  · rename_i i hstarted
    exact Run.settleItems_clock _ hwaits (hitem r i (Work.holds_iff.mpr (.inl hstarted)) h)
  · exact Run.settleItems_clock _ hwaits h

/-- An end of the clock that waits is reached, R30, R156: every turn takes one item, and none is idle while it waits. -/
theorem Run.settleItems_reachesEnd (n : Nat) : ∀ {r : Run}, .endOfClock ∈ r.work.waiting → r.work.waiting.length ≤ n →
    (r.settleItems n).clock.endReached = true := by
  induction n with
  | zero => exact fun hwaits hn => (List.ne_nil_of_mem hwaits (List.length_eq_zero_iff.mp (Nat.le_zero.mp hn))).elim
  | succ n ih =>
    intro r hwaits hn
    rcases r.settleItems_succ n with ⟨hnone, -⟩ | ⟨q, i, hi, -, hnext⟩
    · exact (takeable_ne_nil (Run.mem_liveItems.mpr ⟨hwaits, rfl⟩) hnone).elim
    · rw [hnext]
      by_cases hend : i = .endOfClock
      · subst hend
        exact Run.settleItems_keepsEnd n rfl
      · have hshorter : (r.work.waiting.filter fun j => j != i).length < r.work.waiting.length :=
          List.length_filter_lt_length_iff_exists.mpr ⟨i, hi, by simp⟩
        exact ih (List.mem_filter.mpr ⟨hwaits, by simpa using Ne.symm hend⟩) (by dsimp only; omega)

theorem Run.settle_reachesEnd {r : Run} (h : r.work.holds .endOfClock = true) : r.settle.clock.endReached = true := by
  unfold Run.settle
  rcases Work.holds_iff.mp h with hstarted | hwaits
  · rw [hstarted]
    exact Run.settleItems_keepsEnd _ rfl
  · split
    · exact Run.settleItems_reachesEnd _ hwaits le_rfl
    · exact Run.settleItems_reachesEnd _ hwaits le_rfl

end Sys2Proof.Machine

namespace Sys2Proof.Machine

/-! ## The clock's ranges, R153: plan store and works of a minute -/

/-- The ranges of R153; each boundary raises the wave number by one and the last boundary minute at least as much. -/
structure Clock.Within (c : Clock) : Prop where
  second : c.second ≤ 59
  minute : c.minute ≤ 1440
  lastBoundary : c.lastBoundary ≤ 1440
  wave : c.wave ≤ c.lastBoundary

/-- An open night stands at minute 1440 and has not reached its end, R156. -/
def Clock.OwesEnd (c : Clock) : Prop := c.isOpen = true ∧ c.endReached = false ∧ 1440 ≤ c.minute

theorem Clock.owesEnd_or (c : Clock) : c.minute < 1440 ∨ c.isOpen = false ∨ c.endReached = true ∨ c.OwesEnd := by
  cases hopen : c.isOpen <;> cases hend : c.endReached <;> simp [Clock.OwesEnd, hopen, hend, Nat.lt_or_ge]

/-- The clock is in its ranges, and an end that it owes is outstanding. -/
structure Run.Within (r : Run) : Prop where
  ranges : r.clock.Within
  ending : r.clock.OwesEnd → r.work.holds .endOfClock = true

/-- A block's work keeps the ranges: a boundary's minute lies after the last one and not after the night minute. -/
theorem Clock.Within.doItem {r : Run} {i : WorkItem} (h : r.clock.Within) : (r.doItem i).clock.Within := by
  rcases r.doItem_clock i with hc | ⟨-, m, -, hlast, hm, hc⟩ | ⟨-, hc⟩ <;> rw [hc]
  · exact h
  · exact { h with
      lastBoundary := hm.trans h.minute
      wave := Nat.succ_le_of_lt (h.wave.trans_lt hlast) }
  · exact { h with second := Nat.zero_le _ }

namespace Run.Within

variable {r q : Run}

/-- Clock and outstanding work are all that counts. -/
theorem frame (h : r.Within) (hclock : q.clock = r.clock) (hwork : q.work = r.work) : q.Within where
  ranges := hclock ▸ h.ranges
  ending := by rw [hclock, hwork]; exact h.ending

theorem of_ended (h : r.clock.Within) (hend : r.clock.endReached = true) : r.Within where
  ranges := h
  ending := fun howes => by simp [howes.2.1] at hend

/-- With no work outstanding the clock owes no end. -/
theorem minute_lt (h : r.Within) (hclear : r.work = .clear) (hopen : r.clock.isOpen = true)
    (hend : r.clock.endReached = false) : r.clock.minute < 1440 := by
  by_contra hminute
  have howes := h.ending ⟨hopen, hend, Nat.not_lt.mp hminute⟩
  rw [hclear] at howes
  cases howes

theorem onYard {g} (h : r.Within) : (r.onYard g).Within := ⟨h.ranges, h.ending⟩

theorem updatePoint {cause} (h : r.Within) : (r.updatePoint cause).2.Within :=
  h.frame (r.updatePoint_frame cause).1 (r.updatePoint_frame cause).2.1

theorem write {e} (h : r.Within) : (r.write e).2.Within := by
  unfold Run.write
  simp only
  split
  · exact updatePoint ⟨h.ranges, h.ending⟩
  · exact ⟨h.ranges, h.ending⟩

/-- Completing what is outstanding reaches an end that the clock owes. -/
theorem settle (h : r.Within) : r.settle.Within where
  ranges := Run.settle_clock (fun _ _ _ => Clock.Within.doItem) h.ranges
  ending := by
    obtain ⟨hminute, hopen⟩ := r.settle_minute
    rintro ⟨hisOpen, hend, hlast⟩
    cases hbefore : r.clock.endReached with
    | true =>
      have hstays := Run.settle_clock (P := (·.endReached = true)) (fun _ _ _ => Run.doItem_keepsEnd) hbefore
      simp [hend] at hstays
    | false =>
      have hreached := Run.settle_reachesEnd (h.ending ⟨hopen ▸ hisOpen, hbefore, hminute ▸ hlast⟩)
      simp [hend] at hreached

/-- A tick of a running clock hands over its end at minute 1440, R154, R156. -/
theorem tick (h : r.Within) (hclear : r.work = .clear) (hruns : r.clock.runs = true) : r.tick.Within := by
  obtain ⟨hopen, hend⟩ : r.clock.isOpen = true ∧ r.clock.endReached = false := by simpa [Clock.runs] using hruns
  have hminute := h.minute_lt hclear hopen hend
  refine ⟨{ h.ranges with second := Nat.zero_le _, minute := hminute }, fun howes => ?_⟩
  have hlast : r.clock.minute + 1 = Config.lastMinute := le_antisymm hminute howes.2.2
  exact Work.holds_iff.mpr (.inr (Run.mem_liveItems.mpr ⟨by simp [hlast], rfl⟩))

theorem second (h : r.Within) (hclear : r.work = .clear) (hruns : r.clock.runs = true) : r.second.Within := by
  by_cases hsec : r.clock.second < 59
  · rw [Run.second_counts hsec]
    exact ⟨{ h.ranges with second := hsec }, h.ending⟩
  · rw [Run.second_ticks (Nat.not_lt.mp hsec)]
    exact h.tick hclear hruns

/-! ### Outstanding work taken event by event -/

/-- An event of another item leaves the end of the clock outstanding. -/
theorem afterEvent {taken rest} (h : r.Within) (hstarted : r.work.started ≠ some .endOfClock)
    (htaken : taken ≠ .endOfClock) : (r.afterEvent taken rest).Within where
  ranges := h.ranges
  ending := fun howes => by
    have hwaits := (Work.holds_iff.mp (h.ending howes)).resolve_left hstarted
    exact Work.holds_iff.mpr (.inr (List.mem_filter.mpr ⟨hwaits, by simpa using Ne.symm htaken⟩))

theorem eventStep {d ev} (h : r.Within) : (r.eventStep d ev).Within := by
  unfold Run.eventStep
  split
  · rename_i hmay
    obtain ⟨hmay, -⟩ := Bool.and_eq_true_iff.mp hmay
    exact h.onYard.afterEvent (Run.started_ne_of_mayTake (r := r) hmay (by decide)) (by decide)
  · exact h

theorem doorStep {n} (h : r.Within) : (r.doorStep n).Within := by
  unfold Run.doorStep
  split
  · rename_i hmay
    obtain ⟨hmay, -⟩ := Bool.and_eq_true_iff.mp hmay
    exact h.onYard.afterEvent (Run.started_ne_of_mayTake (r := r) hmay (by decide)) (by decide)
  · exact h

theorem expiryStep {id} (h : r.Within) : (r.expiryStep id).Within := by
  unfold Run.expiryStep
  split
  · exact h
  · rename_i first rest hexpiring
    split
    · refine h.onYard.afterEvent (fun hstarted => ?_) nofun
      rw [Run.onYard_work] at hstarted
      simp [Work.expiring, hstarted] at hexpiring
    · exact h

theorem testBoundary {since} (h : r.Within) : (r.testBoundary since).Within where
  ranges := Clock.Within.doItem (i := .wave since) h.ranges
  ending := by
    rw [Run.testBoundary_work]
    rcases r.testBoundary_clock since with hclock | ⟨m, -, hclock⟩ <;> rw [hclock]
    · exact h.ending
    · exact h.ending

theorem waveStep (h : r.Within) : r.waveStep.Within := by
  unfold Run.waveStep
  split
  · rename_i since hstarted hsince
    exact h.testBoundary.afterEvent (by simp [Run.testBoundary_work, hstarted]) nofun
  · exact h

theorem endStep (h : r.Within) : r.endStep.Within := by
  unfold Run.endStep
  split
  · exact of_ended { h.ranges with second := Nat.zero_le _ } rfl
  · exact h

/-! ### Answers of requests -/

theorem answerSet {lengthOk entry} (h : r.Within) : (answerSet lengthOk entry r).Gives Run.Within := by
  refine .orRefused ?_
  split
  · exact .refused
  · exact .done h.write

theorem answerSetMethod {body} (h : r.Within) : (answerSetMethod body r).Gives Run.Within := by
  refine .orRefused ?_
  split
  · exact .refused
  · exact .done ⟨h.ranges, h.ending⟩

theorem answerActivate {body} (h : r.Within) : (answerActivate body r).Gives Run.Within :=
  .orRefused (.done h.updatePoint)

theorem answerGetPlan {body} (h : r.Within) : (answerGetPlan body r).Gives Run.Within := by
  refine .orRefused ?_
  split
  · exact .refused
  · split
    · split
      · exact .refused
      · exact .done h
    · exact .refused

/-- A new night's clock stands at minute 0, R160. -/
theorem answerNightOpen {body} : (answerNightOpen body r).Gives Run.Within :=
  .orRefused (.orRefused (.done
    { ranges := ⟨Nat.zero_le _, Nat.zero_le _, Nat.zero_le _, le_rfl⟩
      ending := fun howes => absurd howes.2.2 (Nat.not_succ_le_zero 1439) }))

/-- The clock of a closed night owes no end, R162. -/
theorem answerNightClose {body} (h : r.Within) : (answerNightClose body r).Gives Run.Within :=
  .orRefused (.orRefused (.done { ranges := { h.ranges with }, ending := nofun }))

/-- A CLOCK SYNC to minute 1440 is a forward step, which hands over the end of the clock, R157, R158. -/
theorem sync {minute second} (h : r.Within) (hclear : r.work = .clear) (hopen : r.clock.isOpen = true)
    (hend : r.clock.endReached = false) (hminute : minute ≤ 1440) (hsecond : second ≤ 59) :
    (r.sync minute second).Within := by
  have hbefore := h.minute_lt hclear hopen hend
  unfold Run.sync
  refine settle ⟨⟨hsecond, hminute, h.ranges.lastBoundary, h.ranges.wave⟩, fun howes => ?_⟩
  obtain rfl : minute = 1440 := le_antisymm hminute howes.2.2
  refine Work.holds_iff.mpr (.inr (List.mem_append_left _ ?_))
  rw [if_pos hbefore]
  simp [Run.forwardItems, Config.lastMinute]

theorem answerClockSync {body} (h : r.Within) (hclear : r.work = .clear) :
    (answerClockSync body r).Gives Run.Within := by
  unfold Machine.answerClockSync
  refine .orRefused ?_
  split
  · exact .refused
  · rename_i hrange
    obtain ⟨hminute, hsecond, -⟩ := not_or.mp hrange |>.imp_right not_or.mp
    split
    · exact .refused
    · rename_i hopen
      split
      · exact .refused
      · rename_i hend
        exact .orRefused (.done (h.sync hclear (by simpa using hopen) (by simpa using hend) (Nat.not_lt.mp hminute)
          (Nat.not_lt.mp hsecond)))

end Run.Within

end Sys2Proof.Machine

namespace Sys2Proof.Machine

/-! ## The clock's ranges, R153: the whole state -/

/-- The clock is in its ranges, and an end that it owes is outstanding. -/
def State.Within (s : State) : Prop := s.toRun.Within

theorem State.within_iff {s : State} : s.Within ↔ s.clockWithin = true := by
  simp only [State.clockWithin, Bool.and_eq_true, Bool.or_eq_true, decide_eq_true_eq, and_assoc, Bool.not_eq_true',
    or_assoc]
  constructor
  · rintro ⟨⟨hsecond, hminute, hlast, hwave⟩, hending⟩
    refine ⟨hsecond, hminute, hlast, hwave, ?_⟩
    exact s.clock.owesEnd_or.imp_right (Or.imp_right (Or.imp_right hending))
  · rintro ⟨hsecond, hminute, hlast, hwave, hending⟩
    refine ⟨⟨hsecond, hminute, hlast, hwave⟩, ?_⟩
    rintro ⟨hopen, hend, hlate⟩
    rcases hending with hearly | hshut | hended | hwaits
    · exact (Nat.not_lt.mpr hlate hearly).elim
    · cases hshut.symm.trans hopen
    · cases hend.symm.trans hended
    · exact hwaits

namespace State.Within

variable {s : State}

theorem fullReset {atSpace : Bool} : (s.fullReset atSpace).Within := State.within_iff.mpr rfl

theorem withLink {l} (h : s.Within) : State.Within { s with link := l } := h

theorem absorb {r : Run} (h : r.Within) : (s.absorb r).Within := ⟨h.ranges, h.ending⟩

theorem onRun {g} (hg : ∀ {r : Run}, r.Within → (g r).Within) (h : s.Within) : (s.onRun g).Within := absorb (hg h)

theorem settled (h : s.Within) : s.settled.Within := by
  unfold State.settled
  split
  · exact h
  · exact h.onRun Run.Within.settle

theorem timed {g} (hg : ∀ {r : Run}, r.Within → r.work = .clear → r.clock.runs = true → (g r).Within) (h : s.Within) :
    (s.timed g).Within := by
  unfold State.timed
  simp only
  split
  · exact absorb (hg h.settled s.settled_work ‹_›)
  · exact h.settled

/-- A request keeps the clock within where its answer does; request handling has completed the work of the last tick
first. -/
theorem takeRequest {kind tag body answer}
    (ha : ∀ {u : State}, u.Within → u.work = .clear → (answer u).Gives State.Within) (h : s.Within) :
    (takeRequest kind tag body answer s).Within := by
  cases hu : s.taken { kind := kind, tag := tag, body := body } with
  | none => rwa [takeRequest_none hu]
  | some u =>
    have hwithin : u.Within := by
      obtain ⟨l, -, rfl⟩ := State.taken_cases hu
      exact settled (s := { s with link := l }) h
    have hgives := ha hwithin (State.taken_work hu)
    cases hans : answer u with
    | refused c => rw [takeRequest_refused hu hans]; exact hwithin.withLink
    | done result after => rw [takeRequest_done hu hans]; rw [hans] at hgives; exact hgives

/-- A request of clock or plan store. -/
theorem runRequest {kind tag body g} (h : s.Within)
    (hg : ∀ {r : Run}, r.Within → r.work = .clear → (g r).Gives Run.Within) :
    (Machine.takeRequest kind tag body (asRun g) s).Within := by
  refine h.takeRequest fun {u} hu hclear => ?_
  have hgives := hg hu hclear
  unfold asRun
  split
  · trivial
  · rename_i ha; rw [ha] at hgives; exact absorb hgives

/-- A request of the floor's blocks touches neither clock nor outstanding work. -/
theorem yardRequest {kind tag body g} (h : s.Within) : (Machine.takeRequest kind tag body (asYard g) s).Within := by
  refine h.runRequest fun {r} hr _ => ?_
  split
  · trivial
  · exact ⟨hr.ranges, hr.ending⟩

theorem answerSetReports {body} (h : s.Within) : (answerSetReports body s).Gives State.Within := by
  refine .orRefused ?_
  split
  · exact .done h.withLink
  · trivial

/-- Every command has a next state, and its clock is within its ranges. -/
theorem exec (c : Instr) (h : s.Within) : ∃ t, exec c s = .next t ∧ t.Within := by
  cases c with
  | powerOn | resetPin | longBreak => exact ⟨_, rfl, fullReset⟩
  | lineBreak | stopBitError | interCharacterTimeout | frameReceived | characterReceived | receiveLineToMark | frameSent
  | replyStart | reportStart => exact ⟨_, rfl, h.withLink⟩
  | unknownRequestKind kind tag body =>
    refine ⟨_, rfl, ?_⟩
    split
    · exact h
    · exact h.takeRequest fun _ _ => .refused
  | status => exact ⟨_, rfl, h.takeRequest fun hu _ => .orRefused (.done hu)⟩
  | setReports => exact ⟨_, rfl, h.takeRequest fun hu _ => hu.answerSetReports⟩
  | nightOpen => exact ⟨_, rfl, h.runRequest fun _ _ => Run.Within.answerNightOpen⟩
  | nightClose => exact ⟨_, rfl, h.runRequest fun hr _ => hr.answerNightClose⟩
  | clockSync => exact ⟨_, rfl, h.runRequest Run.Within.answerClockSync⟩
  | setNight | setProfile | setDoor | setLane | setDeparture | setRoute =>
    exact ⟨_, rfl, h.runRequest fun hr _ => hr.answerSet⟩
  | setMethod => exact ⟨_, rfl, h.runRequest fun hr _ => hr.answerSetMethod⟩
  | activate => exact ⟨_, rfl, h.runRequest fun hr _ => hr.answerActivate⟩
  | getPlan => exact ⟨_, rfl, h.runRequest fun hr _ => hr.answerGetPlan⟩
  | tipOpen | palletIn | tipClose | bumpPallet | releasePallet | getPallet | moverOn | moverOff | moverReady | taskDone
  | taskFail | postTask | dispatchHold | getTask | callNow | cutNow | holdLoad | freeLoad | abortLoad | resumeLoad
  | depart | getDeparture | doorFault | doorClear | doorResume | getDoor | watchLanes | ackAlert | getLane =>
    exact ⟨_, rfl, h.yardRequest⟩
  | taskExpiry => exact ⟨_, rfl, h.onRun Run.Within.expiryStep⟩
  | callEvent | lateMarginEvent | cutEvent => exact ⟨_, rfl, h.onRun Run.Within.eventStep⟩
  | changeoverEnd => exact ⟨_, rfl, h.onRun Run.Within.doorStep⟩
  | waveBoundary => exact ⟨_, rfl, h.onRun Run.Within.waveStep⟩
  | endReached => exact ⟨_, rfl, h.onRun Run.Within.endStep⟩
  | minuteTick => exact ⟨_, rfl, h.timed Run.Within.tick⟩
  | timeBaseSecond => exact ⟨_, rfl, h.timed Run.Within.second⟩

end State.Within

/-- Settles O57: only the clock's own works and requests touch clock or outstanding work, and completing that work
reaches an end that the clock owes. -/
theorem everyStepKeepsTheClockWithin : Obligations.EveryStepKeepsTheClockWithin := by
  intro s t hs hstep
  rw [← State.within_iff] at hs ⊢
  unfold step at hstep
  split at hstep
  · cases hstep; exact hs
  · rename_i c rest _
    obtain ⟨t', ht', hwithin⟩ := State.Within.exec (s := { s with pending := rest }) c hs
    cases ht'.symm.trans hstep
    exact hwithin

end Sys2Proof.Machine

namespace Sys2Proof.Machine

/-! ## CLOCK SYNC, R157 to R159 -/

/-- Every work but a wave boundary and the end of the clock leaves the clock as it is, R155, R156. -/
theorem Run.doItem_clock_same {r : Run} {i : WorkItem} (hwave : ∀ since, i ≠ .wave since) (hend : i ≠ .endOfClock) :
    (r.doItem i).clock = r.clock := by
  rcases r.doItem_clock i with hsame | ⟨since, -, hi, -⟩ | ⟨hi, -⟩
  · exact hsame
  · exact (hwave since hi).elim
  · exact (hend hi).elim

theorem PlanStore.mem_syncItems {p : PlanStore} {i : WorkItem} (h : i ∈ p.syncItems) : i = .syncUpdate := by
  unfold PlanStore.syncItems at h
  split at h
  · exact List.mem_singleton.mp h
  · cases h

section

variable (r : Run) {minute second : Nat}

/-- No work of a CLOCK SYNC moves the minute that it sets, and none is left. -/
theorem Run.sync_minute : (r.sync minute second).clock.minute = minute ∧
    (r.sync minute second).clock.isOpen = r.clock.isOpen ∧ (r.sync minute second).work = .clear :=
  ⟨(Run.settle_minute _).1, (Run.settle_minute _).2, Run.settle_work _⟩

/-- Only a step to minute 1440, whose second is 0, hands over the end of the clock, which returns the second to 0. -/
theorem Run.sync_second (hlast : minute = 1440 → second = 0) : (r.sync minute second).clock.second = second := by
  unfold Run.sync
  refine Run.settle_clock (P := (·.second = second)) (fun q i hi hsecond => ?_) rfl
  rcases q.doItem_clock i with hclock | ⟨-, _, -, -, -, hclock⟩ | ⟨hend, hclock⟩ <;> rw [hclock]
  · exact hsecond
  · exact hsecond
  · subst hend
    have hwaits := (Work.holds_iff.mp hi).resolve_left nofun
    refine (hlast ?_).symm
    by_contra hminute
    rcases List.mem_append.mp hwaits with hitem | hitem
    · split at hitem <;> simp [Run.forwardItems, Run.backwardItems, Config.lastMinute, hminute] at hitem
    · cases PlanStore.mem_syncItems hitem

/-- A step of 0 or backward hands over expiry and update point alone, so that it sets minute and second and changes
nothing else of the clock, R159. -/
theorem Run.sync_backward (hback : minute ≤ r.clock.minute) :
    (r.sync minute second).clock = { r.clock with minute := minute, second := second } := by
  unfold Run.sync
  refine Run.settle_clock (P := (· = { r.clock with minute := minute, second := second })) (fun q i hi hq => ?_) rfl
  have hwaits := (Work.holds_iff.mp hi).resolve_left nofun
  rw [if_neg (Nat.not_lt.mpr hback)] at hwaits
  refine Eq.trans ?_ hq
  rcases List.mem_append.mp hwaits with hitem | hitem
  · obtain rfl := List.mem_singleton.mp hitem
    exact Run.doItem_clock_same nofun nofun
  · obtain rfl := PlanStore.mem_syncItems hitem
    exact Run.doItem_clock_same nofun nofun

end

/-- The fields of a CLOCK SYNC body. -/
theorem clockSync_fields {minute second : Nat} (hminute : minute ≤ 1440) (hsecond : second ≤ 59) :
    (le16 minute ++ le8 second).length = 3 ∧ u16 (le16 minute ++ le8 second) 0 = minute ∧
      u8 (le16 minute ++ le8 second) 2 = second := by
  refine ⟨rfl, u16_le16_append (by omega) _, ?_⟩
  simp [u8, le16, le8, byteOf]
  omega

/-- With minute and second in range, what is tested next of a CLOCK SYNC is the night, its end and the step, R157. -/
theorem answerClockSync_inRange {r : Run} {minute second : Nat} (hminute : minute ≤ 1440) (hsecond : second ≤ 59)
    (hlast : minute = 1440 → second = 0) : ∃ rest,
    answerClockSync (le16 minute ++ le8 second) r =
      if !r.clock.isOpen then .refused .night
      else if r.clock.endReached then .refused .state
      else if 30 < distance minute r.clock.minute then .refused .range
      else .done (le16 r.clock.minute ++ le8 r.clock.second ++ rest) (r.sync minute second) := by
  obtain ⟨hlength, hfirst, hthird⟩ := clockSync_fields hminute hsecond
  have hrange : ¬(Config.lastMinute < minute ∨ 59 < second ∨ (minute = Config.lastMinute ∧ second ≠ 0)) := by
    rintro (h | h | ⟨h, h0⟩)
    · exact Nat.not_lt.mpr hminute h
    · exact Nat.not_lt.mpr hsecond h
    · exact h0 (hlast h)
  unfold answerClockSync
  simp only [hlength, hfirst, hthird, if_neg hrange, ne_eq, not_true_eq_false, if_false, List.append_assoc]
  exact ⟨_, rfl⟩

/-- Settles O15. -/
theorem clockSyncSetsTheClock : Obligations.ClockSyncSetsTheClock := by
  intro s u tag minute second hu hminute hsecond hlast
  obtain ⟨rest, hanswer⟩ := answerClockSync_inRange (r := u.toRun) hminute hsecond hlast
  simp only [State.toRun_clock] at hanswer
  refine ⟨fun hshut => ?night, fun hopen hend => ?ended, fun hopen hend hfar => ?far,
    fun hopen hend hdown hup => ?taken⟩
  case night => exact congrArg Host.Outcome.next (takeRequest_asRun_refused hu (by rw [hanswer]; simp [hshut]))
  case ended => exact congrArg Host.Outcome.next (takeRequest_asRun_refused hu (by rw [hanswer]; simp [hopen, hend]))
  case far =>
    have hdistance : 30 < distance minute u.clock.minute := by unfold distance; omega
    exact congrArg Host.Outcome.next (takeRequest_asRun_refused hu (by rw [hanswer]; simp [hopen, hend, hdistance]))
  case taken =>
    have hdistance : ¬30 < distance minute u.clock.minute := by unfold distance; omega
    obtain ⟨hsets, hstays, hwork⟩ := u.toRun.sync_minute (minute := minute) (second := second)
    refine ⟨le16 u.clock.minute ++ le8 u.clock.second ++ rest, u.absorb (u.toRun.sync minute second),
      congrArg Host.Outcome.next (takeRequest_asRun hu (by rw [hanswer]; simp [hopen, hend, hdistance])),
      hstays.trans hopen, hsets, u.toRun.sync_second hlast, hwork, rfl, rfl, fun hback => ?_⟩
    rw [State.absorb_clock, u.toRun.sync_backward hback]
    exact ⟨rfl, rfl, hend⟩

end Sys2Proof.Machine

namespace Sys2Proof.Machine

/-! ## NIGHT OPEN, R160 -/

/-- NIGHT OPEN in a closed night: the update point, the new clock, and the floor made ready for it. -/
theorem answerNightOpen_shut {r : Run} (hshut : r.clock.isOpen = false) : ∃ result y,
    answerNightOpen [] r = .done result { (r.updatePoint .nightOpen).2 with clock := Clock.opened, yard := y } := by
  unfold answerNightOpen
  rw [if_neg (by simp), if_neg (by simp [hshut])]
  exact ⟨_, _, rfl⟩

/-- Settles O12. -/
theorem nightOpenStartsTheClock : Obligations.NightOpenStartsTheClock := by
  intro s u tag body hu
  refine ⟨fun hbody => ?format, fun hbody hopen => ?night, fun hbody hshut => ?opens⟩
  case format =>
    exact congrArg Host.Outcome.next
      (takeRequest_asRun_refused hu (if_pos fun h => hbody (List.eq_nil_of_length_eq_zero h)))
  case night =>
    subst hbody
    exact congrArg Host.Outcome.next (takeRequest_asRun_refused hu (if_pos hopen))
  case opens =>
    subst hbody
    obtain ⟨result, y, hanswer⟩ := answerNightOpen_shut (r := u.toRun) hshut
    obtain ⟨hshadow, hmethod⟩ := u.toRun.updatePoint_store .nightOpen
    refine ⟨result, _, congrArg Host.Outcome.next (takeRequest_asRun hu hanswer), rfl, ?_, hmethod, rfl⟩
    exact congrArg Shadow.count hshadow

end Sys2Proof.Machine

namespace Sys2Proof.Machine

/-! ## Tables written key by key -/

/-- Some keys' values rewritten, each by a change of its own that, made twice, is made once. -/
theorem Tab.at_foldl_set_each {α : Type} [DecidableEq α] (d : α) {g : Nat → α → α} (hg : ∀ n a, g n (g n a) = g n a)
    (ks : List Nat) (t : Tab α) (k : Nat) :
    Tab.at d (ks.foldl (fun t n => Tab.set d t n (g n (Tab.at d t n))) t) k =
      if k ∈ ks then g k (Tab.at d t k) else Tab.at d t k := by
  induction ks generalizing t with
  | nil => rfl
  | cons n rest ih =>
    rw [List.foldl_cons, ih]
    by_cases hn : k = n
    · subst hn
      simp [hg]
    · simp [Tab.at_set_other, hn]

/-- Some keys' values written, each with a value of its own. -/
theorem Tab.at_foldl_put_each {α : Type} (d : α) (v : Nat → α) (ks : List Nat) (t : Tab α) (k : Nat) :
    Tab.at d (ks.foldl (fun t n => t.put n (v n)) t) k = if k ∈ ks then v k else Tab.at d t k := by
  induction ks generalizing t with
  | nil => rfl
  | cons n rest ih =>
    rw [List.foldl_cons, ih]
    by_cases hn : k = n
    · subst hn
      simp
    · simp [Tab.at_put_other, hn]

/-- What is read of a table that has one value under each of its keys. -/
theorem Tab.get_of_keys {α : Type} (v : α) {ks : List Nat} {k : Nat} (h : k ∈ ks) :
    (⟨ks.map fun n => (n, v)⟩ : Tab α).get k = some v := by
  have key : ∀ ks : List Nat, k ∈ ks → cellGet (ks.map fun n => (n, v)) k = some v := by
    intro ks
    induction ks with
    | nil => nofun
    | cons n rest ih =>
      intro hmem
      by_cases hn : n = k
      · simp [cellGet, hn]
      · simpa [cellGet, hn] using ih ((List.mem_cons.mp hmem).resolve_left (Ne.symm hn))
  exact key ks h

/-! ## The floor is made ready, R160 step 3 -/

theorem Yard.foldl_sizeDeck_each (env : Env) (ds : List Nat) (y : Yard) :
    ds.foldl (fun z d => z.sizeDeck env d) y =
      { y with decks := ds.foldl (fun t d => t.put d (Deck.blank (env.positions d))) y.decks } := by
  induction ds generalizing y with
  | nil => rfl
  | cons d rest ih => exact ih _

theorem Yard.foldl_setDoor_each (g : Nat → Door → Door) (ns : List Nat) (y : Yard) :
    ns.foldl (fun z n => z.setDoor n (g n (z.door n))) y =
      { y with doors := ns.foldl (fun t n => t.set Door.reset n (g n (t.at Door.reset n))) y.doors } := by
  induction ns generalizing y with
  | nil => rfl
  | cons n rest ih => exact ih _

/-- R160 step 3, table by table. -/
theorem Yard.ready_eq (y : Yard) (env : Env) : ∃ decks doors,
    y.ready env =
      { y with
        departures := ⟨env.plan.departures.keys.map fun d => (d, Departure.fresh .planned)⟩
        decks := decks, doors := doors, waiting := [], tips := .empty, movers := .empty } ∧
      (∀ d ∈ env.plan.departures.keys, Tab.at (Deck.blank 0) decks d = Deck.blank (env.positions d)) ∧
      (∀ n, 1 ≤ n → n ≤ 32 → Tab.at Door.reset doors n = (y.door n).readied (env.plan.doorEntry n).role) := by
  refine ⟨_, _, ?_, fun d hd => (Tab.at_foldl_put_each _ _ _ y.decks d).trans (if_pos hd), fun n h1 h32 =>
    (Tab.at_foldl_set_each Door.reset (g := fun n r => r.readied (env.plan.doorEntry n).role) (fun _ _ => rfl)
      (List.range' 1 32) y.doors n).trans (if_pos (List.mem_range'_1.mpr ⟨h1, by omega⟩))⟩
  simp only [Yard.ready, Yard.foldl_sizeDeck_each]
  exact Yard.foldl_setDoor_each (fun n r => r.readied (env.plan.doorEntry n).role) _ _

/-! ## NIGHT OPEN of an empty hub -/

theorem Shadow.eq_empty_of_count {p : Shadow} (h : p.count = 0) : p = .empty := by
  obtain ⟨night, ⟨profiles⟩, ⟨doors⟩, ⟨lanes⟩, ⟨departures⟩, ⟨routes⟩⟩ := p
  obtain ⟨rfl, rfl, rfl, rfl, rfl, rfl⟩ :
      night = none ∧ profiles = [] ∧ doors = [] ∧ lanes = [] ∧ departures = [] ∧ routes = [] := by
    simpa [Shadow.entries] using List.eq_nil_of_length_eq_zero h
  rfl

/-- A departure whose events all lie ahead has none due, R29. -/
theorem Floor.nextDue_ahead {f : Floor} {env : Env} {d : Nat}
    (h : ∀ e, env.depEntry d = some e → env.minute < e.call ∧ env.minute < env.marginMinute e ∧ env.minute < e.cut) :
    f.nextDue env d = none := by
  have hdue : f.dueEvents env d = [] := by
    unfold Floor.dueEvents
    split
    · rfl
    · rename_i e he
      obtain ⟨hcall, hmargin, hcut⟩ := h e he
      simp [Nat.not_le.mpr hcall, Nat.not_le.mpr hmargin, Nat.not_le.mpr hcut]
  rw [Floor.nextDue, hdue]
  rfl

/-- An examination before any event of the plan changes nothing, R29. -/
theorem Yard.examine_ahead {y : Yard} {env : Env} (h : ∀ c ∈ env.plan.departures.cells,
    env.minute < c.2.call ∧ env.minute + env.plan.night.lateMargin < c.2.cut) : y.examine env = y := by
  refine Yard.examine_none fun d _ => Floor.nextDue_ahead fun e he => ?_
  obtain ⟨hcall, hmargin⟩ := h _ (Tab.mem_of_get he)
  exact ⟨hcall, Nat.lt_sub_of_add_lt hmargin, (Nat.le_add_right _ _).trans_lt hmargin⟩

theorem Yard.ready_heldRefs {y : Yard} (env : Env) (hpallets : y.pallets = .empty) : (y.ready env).heldRefs = [] := by
  obtain ⟨decks, doors, hready, -⟩ := y.ready_eq env
  rw [hready, Floor.heldRefs, hpallets]
  rfl

/-- With nothing pending, no live pallet and no event due, NIGHT OPEN makes the floor ready and does no more. -/
theorem answerNightOpen_empty {r : Run} (hshut : r.clock.isOpen = false) (hempty : r.plan.shadow = .empty)
    (hpallets : r.yard.pallets = .empty)
    (hahead : ∀ c ∈ r.plan.active.departures.cells, 0 < c.2.call ∧ r.plan.active.night.lateMargin < c.2.cut) :
    answerNightOpen [] r =
      .done ([0#8, 0#8, 0#8, 0#8] ++ le8 r.plan.active.departures.size ++ [0#8, 0#8, 0#8, 0#8, 0#8, 0#8])
        { r with
          clock := Clock.opened
          yard := r.yard.ready ({ r with clock := Clock.opened } : Run).env } := by
  have hexamine (y : Yard) : y.examine ({ r with clock := Clock.opened } : Run).env = y :=
    Yard.examine_ahead fun c hc => ⟨(hahead c hc).1, (Nat.zero_add _).trans_lt (hahead c hc).2⟩
  unfold answerNightOpen
  rw [if_neg (by simp), if_neg (by simp [hshut])]
  simp only [Run.updatePoint_idle .nightOpen hempty, Yard.ready_heldRefs _ hpallets, carryAll, Yard.watch_lanes,
    hexamine, Nat.sub_self]
  rfl

/-- Settles O13. -/
theorem nightOpenReadiesTheBlocks : Obligations.NightOpenReadiesTheBlocks := by
  intro s u tag hu hshut hcount hpallets hahead
  have hanswer := answerNightOpen_empty (r := u.toRun) hshut (Shadow.eq_empty_of_count hcount) hpallets hahead
  obtain ⟨decks, doors, hready, hdecks, hdoors⟩ :=
    u.toRun.yard.ready_eq ({ u.toRun with clock := Clock.opened } : Run).env
  rw [hready] at hanswer
  refine ⟨_, congrArg Host.Outcome.next (takeRequest_asRun hu hanswer), rfl, rfl, fun d e he => ?departure,
    fun n h1 h32 => ?door, rfl, rfl, fun _ => rfl, fun _ => rfl, rfl, rfl, rfl, rfl, rfl, rfl, rfl⟩
  case departure =>
    have hkey : d ∈ u.plan.active.departures.keys := Tab.mem_keys_of_has (Option.isSome_iff_exists.mpr ⟨e, he⟩)
    refine ⟨Tab.get_of_keys _ hkey, (hdecks d hkey).trans ?_⟩
    simp [Env.positions, Env.profileOf, Env.depEntry, he]
  case door =>
    have hdoor := hdoors n h1 h32
    exact ⟨(congrArg Door.underlying hdoor :), (congrArg Door.faulted hdoor :), (congrArg Door.condition hdoor :),
      (congrArg Door.faultMinute hdoor :)⟩

end Sys2Proof.Machine

namespace Sys2Proof.Machine

/-! ## The record link, R169: one character in each phase of the receiver -/

namespace Rx

theorem inFrame_of_ne_hunt {rx : Rx} (h : rx ≠ .hunt) : rx.inFrame = true := by
  cases rx with
  | hunt => exact absurd rfl h
  | header | body => rfl

/-- A header starts with a length byte of at most 240, R169. -/
theorem within_header_cons {length : Byte} {got : List Byte} :
    (Rx.header (length :: got)).within = true ↔ got.length ≤ 1 ∧ length.toNat ≤ 240 := by
  simp only [Rx.within, Bool.and_eq_true, decide_eq_true_eq, List.length_cons, List.head?_cons, Option.all_some]
  exact and_congr_left' Nat.succ_le_succ_iff

theorem within_body {length kind tag : Byte} {got : List Byte} :
    (Rx.body length kind tag got).within = true ↔ length.toNat ≤ 240 ∧ got.length < length.toNat + 2 := by
  simp only [Rx.within, Bool.and_eq_true, decide_eq_true_eq]
  exact Iff.rfl

end Rx

namespace Link

variable {l : Link} {length kind tag c : Byte} {got : List Byte}

theorem receive_waiting (h : l.waitMark = true) : l.receive c = l := if_pos h

theorem receive_atMark {m : Link} (h : l.waitMark = false) (hm : l.takeCharacter c = m) : l.receive c = m :=
  (if_neg (by simp [h])).trans hm

theorem takeCharacter_start (h : l.rx = .hunt) : l.takeCharacter Config.startByte = { l with rx := .header [] } := by
  simp [takeCharacter, h]

theorem takeCharacter_noStart (h : l.rx = .hunt) (hc : c ≠ Config.startByte) : l.takeCharacter c = l := by
  simp [takeCharacter, h, hc]

theorem takeCharacter_length (h : l.rx = .header []) (hc : c.toNat ≤ 240) :
    l.takeCharacter c = { l with rx := .header [c] } := by
  simp [takeCharacter, h, Config.maxBody, Nat.not_lt.mpr hc]

theorem takeCharacter_tooLong (h : l.rx = .header []) (hc : 240 < c.toNat) : l.takeCharacter c = l.dropPartial := by
  simp [takeCharacter, h, Config.maxBody, hc]

theorem takeCharacter_kind (h : l.rx = .header [length]) :
    l.takeCharacter c = { l with rx := .header [length, c] } := by
  simp [takeCharacter, h]

theorem takeCharacter_tag (h : l.rx = .header (length :: kind :: got)) :
    l.takeCharacter c = { l with rx := .body length kind c [] } := by
  simp [takeCharacter, h]

theorem takeCharacter_body (h : l.rx = .body length kind tag got) (hlen : got.length < length.toNat + 1) :
    l.takeCharacter c = { l with rx := .body length kind tag (got ++ [c]) } := by
  simp [takeCharacter, h, hlen]

theorem takeCharacter_last (h : l.rx = .body length kind tag got) (hlen : length.toNat + 1 ≤ got.length) :
    l.takeCharacter c = l.finishFrame length kind tag (got ++ [c]) := by
  simp [takeCharacter, h, Nat.not_lt.mpr hlen]

/-- A frame whose check agrees is offered to the buffer by the receiver, which hunts again. -/
theorem finishFrame_good (h : got.drop length.toNat = checkBytes (length :: kind :: tag :: got.take length.toNat)) :
    l.finishFrame length kind tag got =
      Link.offer { l with rx := .hunt } { kind := kind, tag := tag, body := got.take length.toNat } := by
  simp [finishFrame, h]

theorem finishFrame_bad (h : got.drop length.toNat ≠ checkBytes (length :: kind :: tag :: got.take length.toNat)) :
    l.finishFrame length kind tag got = l.dropPartial := by
  simp [finishFrame, h, dropPartial]

/-! ## The receiver stays within its bounds -/

theorem within_setRx {rx : Rx} (h : l.within = true) (hrx : rx.within = true) :
    ({ l with rx := rx } : Link).within = true := by
  rw [within_iff] at h ⊢
  exact ⟨hrx, h.2⟩

theorem within_offer {f : Frame} (h : l.within = true) (hf : bodyFits f.body = true) : (l.offer f).within = true := by
  rw [within_iff] at h
  obtain ⟨hrx, hbuffer, hbodies, hreports, hframing, hrequests, hdropped, hpending⟩ := h
  rcases Nat.lt_or_ge l.buffer.length 4 with hroom | hfull
  · rw [offer_room f hroom, within_iff]
    refine ⟨hrx, ?_, ?_, hreports, hframing, hrequests, hdropped, hpending⟩
    · simpa using hroom
    · intro g hg
      rcases List.mem_append.mp hg with hg | hg
      · exact hbodies g hg
      · rw [List.mem_singleton.mp hg]; exact hf
  · rw [offer_full f hfull, within_iff]
    exact ⟨hrx, hbuffer, hbodies, hreports, hframing, satAdd_le .., hdropped, hpending⟩

/-- The body of a frame is as long as its length byte says, which R169 has tested. -/
theorem within_finishFrame (h : l.within = true) (hlen : length.toNat ≤ 240) :
    (l.finishFrame length kind tag got).within = true := by
  by_cases hcheck : got.drop length.toNat = checkBytes (length :: kind :: tag :: got.take length.toNat)
  · rw [finishFrame_good hcheck]
    refine within_offer (within_hunt l h) (decide_eq_true ?_)
    exact (List.length_take_le ..).trans hlen
  · rw [finishFrame_bad hcheck]
    exact within_dropPartial l h

theorem within_takeCharacter (h : l.within = true) : (l.takeCharacter c).within = true := by
  have hrx := ((within_iff l).mp h).1
  cases hphase : l.rx with
  | hunt =>
    by_cases hc : c = Config.startByte
    · subst hc; rw [takeCharacter_start hphase]; exact within_setRx h rfl
    · rw [takeCharacter_noStart hphase hc]; exact h
  | header got =>
    rw [hphase] at hrx
    match got with
    | [] =>
      rcases Nat.lt_or_ge 240 c.toNat with hlong | hfits
      · rw [takeCharacter_tooLong hphase hlong]; exact within_dropPartial l h
      · rw [takeCharacter_length hphase hfits]
        exact within_setRx h (Rx.within_header_cons.mpr ⟨Nat.zero_le _, hfits⟩)
    | [length] =>
      rw [takeCharacter_kind hphase]
      exact within_setRx h (Rx.within_header_cons.mpr ⟨le_rfl, (Rx.within_header_cons.mp hrx).2⟩)
    | length :: kind :: _ =>
      rw [takeCharacter_tag hphase]
      exact within_setRx h (Rx.within_body.mpr ⟨(Rx.within_header_cons.mp hrx).2, Nat.succ_pos _⟩)
  | body length kind tag got =>
    rw [hphase] at hrx
    obtain ⟨hlength, hgot⟩ := Rx.within_body.mp hrx
    rcases Nat.lt_or_ge got.length (length.toNat + 1) with hmore | hlast
    · rw [takeCharacter_body hphase hmore]
      exact within_setRx h (Rx.within_body.mpr ⟨hlength, by simpa using hmore⟩)
    · rw [takeCharacter_last hphase hlast]; exact within_finishFrame h hlength

theorem within_receive (h : l.within = true) : (l.receive c).within = true := by
  unfold receive
  split
  · exact h
  · exact within_takeCharacter h

theorem within_stopBitError (h : l.within = true) : l.stopBitError.within = true := by
  unfold stopBitError
  split
  · exact (within_dropPartial l h :)
  · exact h

/-! ## The transmitter, R173, R176 -/

theorem startReply_waiting {f : Frame} (htx : l.tx = none) (hslot : l.slot = some f) :
    l.startReply = { l with tx := some f.bytes, slot := l.inHand, inHand := none } := by
  simp [startReply, htx, hslot]

theorem startReply_idle (h : l.tx ≠ none ∨ l.slot = none) : l.startReply = l := by
  unfold startReply
  split
  · next htx hslot =>
    rcases h with h | h
    · exact absurd htx h
    · cases h.symm.trans hslot
  · rfl

theorem startReport_head {r : Report} {rest : List Report} (htx : l.tx = none) (hslot : l.slot = none)
    (hhand : l.inHand = none) (hgate : l.gateOpen = true) (hreports : l.reports = r :: rest) :
    l.startReport =
      { l with
        tx := some { r with droppedBefore := l.pendingDrops }.frame.bytes
        reports := rest
        pendingDrops := 0 } := by
  simp [startReport, htx, hslot, hhand, hgate, hreports]

/-- Any one of these keeps the head report in the queue. -/
theorem startReport_idle (h : l.tx ≠ none ∨ l.slot ≠ none ∨ l.gateOpen = false ∨ l.reports = []) :
    l.startReport = l := by
  unfold startReport
  split
  · next htx hslot _ hgate hreports => simp [htx, hslot, hgate, hreports] at h
  · rfl

theorem within_startReply (h : l.within = true) : l.startReply.within = true := by
  unfold startReply
  split <;> exact h

theorem within_startReport (h : l.within = true) : l.startReport.within = true := by
  unfold startReport
  split
  · next hreports =>
    rw [within_iff] at h ⊢
    obtain ⟨hrx, hbuffer, hbodies, hlength, hframing, hrequests, hdropped, -⟩ := h
    rw [hreports] at hlength
    exact ⟨hrx, hbuffer, hbodies, (Nat.le_succ _).trans hlength, hframing, hrequests, hdropped, Nat.zero_le _⟩
  · exact h

end Link

end Sys2Proof.Machine

namespace Sys2Proof.Machine

/-! ## What handling a request may do to the link, R171 -/

/-- From `u` to `after` the queue of commands stays, and of the link only reports have joined and gate and mode may be
new (R174, R177). -/
structure State.Handles (u after : State) : Prop where
  pending : after.pending = u.pending
  link : ∃ gate mode notes, after.link = Link.joinAll { u.link with gateOpen := gate, replaceMode := mode } notes

theorem State.Handles.within {u after : State} (h : u.Handles after) (hu : u.link.within = true) :
    after.link.within = true := by
  obtain ⟨gate, mode, notes, hlink⟩ := h.link
  rw [hlink]
  exact Link.within_joinAll _ _ hu

theorem State.handles_same (u : State) : u.Handles u := ⟨rfl, _, _, [], rfl⟩

theorem asRun_handles (g : Run → Answer Run) (u : State) : (asRun g u).Gives u.Handles := by
  unfold asRun
  split
  · trivial
  · next r _ => exact ⟨rfl, _, _, r.yard.notes, rfl⟩

theorem answerStatus_handles (body : List Byte) (u : State) : (answerStatus body u).Gives u.Handles :=
  .orRefused (.done u.handles_same)

theorem answerSetReports_handles (body : List Byte) (u : State) : (answerSetReports body u).Gives u.Handles := by
  refine .orRefused ?_
  split
  · exact .done ⟨rfl, _, _, [], rfl⟩
  · trivial

/-- A command that is a request is the handling of its frame; the one exception is an UNKNOWN_REQUEST_KIND that names a
kind of Table 10-2, which no well-formed command does. -/
theorem exec_request {i : Instr} {f : Frame} (h : requestFrame i = some f) :
    (∃ answer, (∀ s, exec i s = .next (takeRequest f.kind f.tag f.body answer s)) ∧ ∀ u, (answer u).Gives u.Handles) ∨
      (i.wellFormed = false ∧ ∀ s, exec i s = .next s) := by
  cases i <;> cases h
  case unknownRequestKind kind tag body =>
    by_cases hkind : requestKinds.contains kind = true
    · exact .inr ⟨by simp [Instr.wellFormed, List.contains_iff_mem.mp hkind],
        fun s => congrArg Host.Outcome.next (if_pos hkind)⟩
    · exact .inl ⟨_, fun s => congrArg Host.Outcome.next (if_neg hkind), fun _ => .refused⟩
  case status => exact .inl ⟨_, fun _ => rfl, answerStatus_handles _⟩
  case setReports => exact .inl ⟨_, fun _ => rfl, answerSetReports_handles _⟩
  all_goals exact .inl ⟨_, fun _ => rfl, asRun_handles _⟩

/-! ## Every step keeps the link within its bounds -/

theorem State.within_absorb {s : State} {r : Run} (h : s.link.within = true) : (s.absorb r).link.within = true :=
  Link.within_joinAll _ _ h

theorem State.within_settled {s : State} (h : s.link.within = true) : s.settled.link.within = true := by
  unfold State.settled
  split
  · exact h
  · exact within_absorb h

theorem State.within_timed {s : State} {g : Run → Run} (h : s.link.within = true) : (s.timed g).link.within = true := by
  unfold State.timed
  simp only
  split
  · exact within_absorb (within_settled h)
  · exact within_settled h

theorem State.within_taken {s u : State} {f : Frame} (hu : s.taken f = some u) (h : s.link.within = true) :
    u.link.within = true := by
  obtain ⟨l, hl, rfl⟩ := State.taken_cases hu
  exact within_settled (s := { s with link := l }) (Link.within_accept hl h)

theorem within_takeRequest {kind tag : Byte} {body : List Byte} {answer : State → Answer State} {s : State}
    (ha : ∀ u, (answer u).Gives u.Handles) (h : s.link.within = true) :
    (takeRequest kind tag body answer s).link.within = true := by
  cases hu : s.taken { kind := kind, tag := tag, body := body } with
  | none => rwa [takeRequest_none hu]
  | some u =>
    have hwithin := State.within_taken hu h
    have hgives := ha u
    cases hans : answer u with
    | refused c => rw [takeRequest_refused hu hans]; exact Link.within_deliver _ _ hwithin
    | done result after =>
      rw [takeRequest_done hu hans]
      rw [hans] at hgives
      exact Link.within_deliver _ _ (State.Handles.within hgives hwithin)

theorem within_exec_request {i : Instr} {f : Frame} {s : State} (hi : requestFrame i = some f)
    (h : s.link.within = true) : ∃ t, exec i s = .next t ∧ t.link.within = true := by
  rcases exec_request hi with ⟨answer, hexec, hanswer⟩ | ⟨-, hexec⟩
  · exact ⟨_, hexec s, within_takeRequest hanswer h⟩
  · exact ⟨s, hexec s, h⟩

/-- Every command has a next state, and its link is within its bounds. -/
theorem within_exec (i : Instr) {s : State} (h : s.link.within = true) :
    ∃ t, exec i s = .next t ∧ t.link.within = true := by
  cases hi : requestFrame i
  case some => exact within_exec_request hi h
  case none =>
    cases i <;> cases hi
    case powerOn | resetPin | longBreak => exact ⟨_, rfl, rfl⟩
    case lineBreak => exact ⟨_, rfl, Link.within_hunt _ h⟩
    case stopBitError => exact ⟨_, rfl, Link.within_stopBitError h⟩
    case interCharacterTimeout =>
      refine ⟨_, rfl, ?_⟩
      simp only
      split
      · exact Link.within_dropPartial _ h
      · exact h
    case frameReceived =>
      refine ⟨_, rfl, ?_⟩
      simp only
      split
      · exact Link.within_receive h
      · exact h
    case characterReceived => exact ⟨_, rfl, Link.within_receive h⟩
    case receiveLineToMark | frameSent => exact ⟨_, rfl, h⟩
    case replyStart => exact ⟨_, rfl, Link.within_startReply h⟩
    case reportStart => exact ⟨_, rfl, Link.within_startReport h⟩
    case minuteTick | timeBaseSecond => exact ⟨_, rfl, State.within_timed h⟩
    case taskExpiry | callEvent | lateMarginEvent | cutEvent | changeoverEnd | waveBoundary | endReached =>
      exact ⟨_, rfl, State.within_absorb h⟩

/-- Settles O56: the link's own events keep the bounds one by one; all other commands touch the link by joining reports,
taking a frame and handing over a reply. -/
theorem everyStepKeepsTheLinkWithin : Obligations.EveryStepKeepsTheLinkWithin := by
  intro s t hs hstep
  unfold step at hstep
  split at hstep
  · cases hstep; exact hs
  · next c rest _ =>
    obtain ⟨t', ht', hwithin⟩ := within_exec c (s := { s with pending := rest }) hs
    cases ht'.symm.trans hstep
    exact hwithin

/-! ## A request and its reply -/

/-- Settles O9: `exec_request` gives each request command its answer, and request handling hands over its reply. -/
theorem everyRequestTakenGetsOneReply : Obligations.EveryRequestTakenGetsOneReply := by
  refine ⟨fun i s u f hwf hi hu => ?taken, fun i s f hi hu => ?notTaken⟩
  case taken =>
    rcases exec_request hi with ⟨answer, hexec, hanswer⟩ | ⟨hill, -⟩
    · have hgives := hanswer u
      rw [hexec s]
      cases hans : answer u with
      | refused c => exact .inl ⟨c, congrArg Host.Outcome.next (takeRequest_refused hu hans)⟩
      | done result after =>
        rw [hans] at hgives
        obtain ⟨hpending, gate, mode, notes, hlink⟩ := hgives
        obtain ⟨hrx, hmark, hheld, hbuffer, hhand, hslot, htx, -, -, hframing, hrequests⟩ :=
          Link.joinAll_frame { u.link with gateOpen := gate, replaceMode := mode } notes
        rw [← hlink] at hrx hmark hheld hbuffer hhand hslot htx hframing hrequests
        exact .inr ⟨result, after, congrArg Host.Outcome.next (takeRequest_done hu hans), hpending, hrx, hmark, hheld,
          hbuffer, hhand, hslot, htx, hframing, hrequests⟩
    · cases hwf.symm.trans hill
  case notTaken =>
    rcases exec_request hi with ⟨answer, hexec, -⟩ | ⟨-, hexec⟩
    · rw [hexec s, takeRequest_none hu]
    · exact hexec s

/-- Settles O10. -/
theorem unknownKindIsRefusedWithKind : Obligations.UnknownKindIsRefusedWithKind := by
  intro s u kind tag body hkind hu
  have hcontains : ¬requestKinds.contains kind = true := fun h => hkind (List.contains_iff_mem.mp h)
  exact congrArg Host.Outcome.next ((if_neg hcontains).trans (takeRequest_refused hu rfl))

theorem flagOfCode_flag8 (b : Bool) (rest : List Byte) : flagOfCode (u8 (flag8 b ++ rest) 0) = some b := by
  cases b <;> rfl

theorem flagOfCode_flag8_second (a b : Bool) : flagOfCode (u8 (flag8 a ++ flag8 b) 1) = some b := by
  cases a <;> cases b <;> rfl

/-- A SET REPORTS of two bytes, one of which is no flag. -/
theorem answerSetReports_range {g m : Byte} {u : State} (h : 1 < g.toNat ∨ 1 < m.toNat) :
    answerSetReports [g, m] u = .refused .range := by
  unfold answerSetReports
  rw [if_neg (by simp)]
  split
  · next hgate hmode =>
    rcases h with h | h
    · cases (flagOfCode_none h).symm.trans hgate
    · cases (flagOfCode_none h).symm.trans hmode
  · rfl

theorem answerSetReports_taken (g m : Bool) (u : State) :
    answerSetReports (flag8 g ++ flag8 m) u =
      .done (flag8 u.link.gateOpen ++ flag8 u.link.replaceMode ++ le8 u.link.reports.length ++ le16 u.link.pendingDrops)
        { u with link := { u.link with gateOpen := g, replaceMode := m } } := by
  unfold answerSetReports
  rw [if_neg (by simp [length_flag8])]
  simp only [flagOfCode_flag8, flagOfCode_flag8_second]

/-- Settles O11. -/
theorem setReportsSetsGateAndMode : Obligations.SetReportsSetsGateAndMode := by
  intro s u tag body hu
  refine ⟨fun hlength => ?format, fun g m hbody hcode => ?range, fun g m hbody => ?taken⟩
  case format => exact congrArg Host.Outcome.next (takeRequest_refused hu (if_pos hlength))
  case range =>
    subst hbody
    exact congrArg Host.Outcome.next (takeRequest_refused hu (answerSetReports_range hcode))
  case taken =>
    subst hbody
    exact congrArg Host.Outcome.next (takeRequest_done hu (answerSetReports_taken g m u))

end Sys2Proof.Machine

namespace Sys2Proof.Machine

/-! ## A whole frame on the line, R167 to R170 -/

/-- The bytes of a body are gathered while the last check byte is still to come. -/
theorem Link.foldl_receive_body {length kind tag : Byte} : ∀ (bytes : List Byte) {l : Link} {got : List Byte},
    l.waitMark = false → l.rx = .body length kind tag got → got.length + bytes.length ≤ length.toNat + 1 →
    bytes.foldl Link.receive l = { l with rx := .body length kind tag (got ++ bytes) }
  | [], l, got, _, hrx, _ => by simp [← hrx]
  | c :: bytes, l, got, hmark, hrx, hlength => by
    rw [List.length_cons] at hlength
    have hfirst : l.receive c = { l with rx := .body length kind tag (got ++ [c]) } :=
      receive_atMark hmark (takeCharacter_body hrx (by omega))
    have hrest := foldl_receive_body bytes (l := { l with rx := .body length kind tag (got ++ [c]) }) hmark rfl
      (by simp only [List.length_append, List.length_singleton]; omega)
    rw [List.foldl_cons, hfirst, hrest, List.append_assoc]
    rfl

theorem toNat_byteOf {n : Nat} (h : n ≤ 240) : (byteOf n).toNat = n := by
  simp only [byteOf, BitVec.toNat_ofNat]
  omega

/-- The four bytes before the body bring a hunting receiver to the body of the frame. -/
theorem Link.foldl_receive_header {l : Link} {n : Nat} (kind tag : Byte) (hn : n ≤ 240) (hrx : l.rx = .hunt)
    (hmark : l.waitMark = false) :
    [Config.startByte, byteOf n, kind, tag].foldl Link.receive l = { l with rx := .body (byteOf n) kind tag [] } := by
  have hstart : l.receive Config.startByte = { l with rx := .header [] } :=
    receive_atMark hmark (takeCharacter_start hrx)
  have hlength : Link.receive { l with rx := .header [] } (byteOf n) = { l with rx := .header [byteOf n] } :=
    receive_atMark hmark (takeCharacter_length rfl (by rwa [toNat_byteOf hn]))
  have hkind : Link.receive { l with rx := .header [byteOf n] } kind = { l with rx := .header [byteOf n, kind] } :=
    receive_atMark hmark (takeCharacter_kind rfl)
  have htag : Link.receive { l with rx := .header [byteOf n, kind] } tag =
      { l with rx := .body (byteOf n) kind tag [] } :=
    receive_atMark hmark (takeCharacter_tag rfl)
  simp only [List.foldl_cons, List.foldl_nil, hstart, hlength, hkind, htag]

/-- The bytes of a frame as the receiver's phases divide them; `hi` is the last check byte. -/
theorem Frame.bytes_phases (f : Frame) : ∃ lo hi, checkBytes f.covered = [lo, hi] ∧
    f.bytes = [Config.startByte, byteOf f.body.length, f.kind, f.tag] ++ (f.body ++ [lo]) ++ [hi] :=
  ⟨_, _, rfl, by simp [Frame.bytes, Frame.covered, checkBytes]⟩

/-- The bytes of a frame, sent to a hunting receiver, offer exactly that frame to the buffer. -/
theorem Link.foldl_receive_bytes {f : Frame} {l : Link} (hbody : f.body.length ≤ 240) (hrx : l.rx = .hunt)
    (hmark : l.waitMark = false) : f.bytes.foldl Link.receive l = l.offer f := by
  obtain ⟨lo, hi, hcheck, hbytes⟩ := f.bytes_phases
  have hlength := toNat_byteOf hbody
  have hgood : (f.body ++ [lo] ++ [hi]).drop (byteOf f.body.length).toNat =
      checkBytes (byteOf f.body.length :: f.kind :: f.tag ::
        (f.body ++ [lo] ++ [hi]).take (byteOf f.body.length).toNat) := by
    rw [Frame.covered] at hcheck
    simp [hlength, hcheck]
  have hassembled := foldl_receive_body (f.body ++ [lo])
    (l := { l with rx := .body (byteOf f.body.length) f.kind f.tag [] }) hmark rfl (by simp [hlength])
  have hlast : Link.receive { l with rx := .body (byteOf f.body.length) f.kind f.tag (f.body ++ [lo]) } hi =
      Link.finishFrame { l with rx := .body (byteOf f.body.length) f.kind f.tag (f.body ++ [lo]) }
        (byteOf f.body.length) f.kind f.tag (f.body ++ [lo] ++ [hi]) :=
    receive_atMark hmark (takeCharacter_last rfl (by simp [hlength]))
  calc f.bytes.foldl Link.receive l
      = Link.receive { l with rx := .body (byteOf f.body.length) f.kind f.tag (f.body ++ [lo]) } hi := by
        rw [hbytes, List.foldl_append, List.foldl_append, foldl_receive_header f.kind f.tag hbody hrx hmark, hassembled]
        rfl
    _ = Link.offer { l with rx := .hunt } f := by
        rw [hlast, finishFrame_good hgood]
        simp [hlength]
    _ = l.offer f := by rw [← hrx]

/-- Settles O6. -/
theorem frameBytesAreReceivedWhole : Obligations.FrameBytesAreReceivedWhole := by
  refine ⟨fun s c => rfl, fun f l hbody hrx hmark => ?_⟩
  rw [Link.foldl_receive_bytes hbody hrx hmark]
  exact ⟨Link.offer_room f, Link.offer_full f⟩

end Sys2Proof.Machine

namespace Sys2Proof.Machine

/-! ## Resets, breaks and errors -/

/-- Settles O2: all three are the full reset, with the line at mark or at space. -/
theorem fullResetGivesResetValues : Obligations.FullResetGivesResetValues :=
  fun _ => ⟨rfl, rfl, rfl⟩

theorem Link.stopBitError_inFrame {l : Link} (h : l.rx ≠ .hunt) :
    l.stopBitError = { l.dropPartial with waitMark := true } := if_pos (Rx.inFrame_of_ne_hunt h)

theorem Link.stopBitError_hunt {l : Link} (h : l.rx = .hunt) : l.stopBitError = l := by
  simp [Link.stopBitError, h, Rx.inFrame]

theorem execInterCharacterTimeout_inFrame {s : State} (h : s.link.rx ≠ .hunt) :
    execInterCharacterTimeout s = .next { s with link := s.link.dropPartial } := by
  simp [execInterCharacterTimeout, Rx.inFrame_of_ne_hunt h]

theorem execInterCharacterTimeout_hunt {s : State} (h : s.link.rx = .hunt) : execInterCharacterTimeout s = .next s := by
  simp [execInterCharacterTimeout, h, Rx.inFrame]

/-- A line event that leaves the link as it is leaves the state as it is. -/
theorem State.next_withLink {s : State} {l : Link} (h : l = s.link) :
    (Host.Outcome.next { s with link := l } : Host.Outcome State Fault Refusal) = .next s := by
  subst h; rfl

/-- Settles O4. -/
theorem breaksAndErrorsDropTheFrame : Obligations.BreaksAndErrorsDropTheFrame := by
  refine fun s => ⟨rfl, fun t c hmark => State.next_withLink (Link.receive_waiting hmark), rfl, fun hframe => ?_,
    fun hhunt => ?_⟩
  · refine ⟨?_, execInterCharacterTimeout_inFrame hframe⟩
    show execStopBitError s = _
    rw [execStopBitError, Link.stopBitError_inFrame hframe]
    rfl
  · exact ⟨State.next_withLink (Link.stopBitError_hunt hhunt), execInterCharacterTimeout_hunt hhunt⟩

/-! ## Assembly, R169, R170 -/

/-- CHARACTER_RECEIVED at a line that is not awaited. -/
theorem exec_characterReceived {s : State} {c : Byte} {l : Link} (hmark : s.link.waitMark = false)
    (hl : s.link.takeCharacter c = l) : exec (.characterReceived c) s = .next { s with link := l } := by
  subst hl
  rw [← Link.receive_atMark hmark rfl]
  rfl

/-- FRAME_RECEIVED where the receiver waits for the last check byte. -/
theorem exec_frameReceived {s : State} {length kind tag c : Byte} {got : List Byte} (hmark : s.link.waitMark = false)
    (hrx : s.link.rx = .body length kind tag got) (hgot : got.length = length.toNat + 1) :
    exec (.frameReceived c) s = .next { s with link := s.link.finishFrame length kind tag (got ++ [c]) } := by
  have hlast : s.link.rx.atLastByte = true := by simp [hrx, Rx.atLastByte, hgot]
  show execFrameReceived c s = _
  rw [execFrameReceived, if_pos hlast, Link.receive_atMark hmark (Link.takeCharacter_last hrx hgot.ge)]

/-- Settles O5. -/
theorem receiverAssemblesFrames : Obligations.ReceiverAssemblesFrames := by
  refine ⟨fun s c => ⟨fun hmark => State.next_withLink (Link.receive_waiting hmark), fun hmark hrx hc => ?noStart,
    fun hmark hrx hc => ?start, fun hmark hrx hlong => ?tooLong, fun hmark hrx hfits => ?length⟩,
    fun s length kind tag c got hmark hrx hgot => ?last⟩
  case noStart => exact exec_characterReceived hmark (Link.takeCharacter_noStart hrx hc)
  case start => subst hc; exact exec_characterReceived hmark (Link.takeCharacter_start hrx)
  case tooLong => exact exec_characterReceived hmark (Link.takeCharacter_tooLong hrx hlong)
  case length => exact exec_characterReceived hmark (Link.takeCharacter_length hrx hfits)
  case last =>
    rw [exec_frameReceived hmark hrx hgot]
    refine ⟨fun hgood => ?_, fun hbad => by rw [Link.finishFrame_bad hbad]; rfl⟩
    rw [Link.finishFrame_good hgood]
    refine ⟨fun hroom => ?_, fun hfull => ?_⟩
    · rw [Link.offer_room (l := { s.link with rx := .hunt }) _ hroom]
    · rw [Link.offer_full (l := { s.link with rx := .hunt }) _ hfull]
      rfl

/-! ## Transmitter and report queue -/

theorem exec_replyStart {s : State} {l : Link} (h : s.link.startReply = l) :
    exec .replyStart s = .next { s with link := l } := h ▸ rfl

theorem exec_reportStart {s : State} {l : Link} (h : s.link.startReport = l) :
    exec .reportStart s = .next { s with link := l } := h ▸ rfl

/-- Settles O7. -/
theorem transmitterStartsRepliesFirst : Obligations.TransmitterStartsRepliesFirst := by
  intro s
  refine ⟨fun f htx hslot => ⟨exec_replyStart (Link.startReply_waiting htx hslot), ?_⟩,
    fun r rest htx hslot hhand hgate hreports => ?_, fun hidle => ?_, fun hidle => ?_, rfl⟩
  · exact exec_reportStart (Link.startReport_idle (.inr (.inl (by simp [hslot]))))
  · exact exec_reportStart (Link.startReport_head htx hslot hhand hgate hreports)
  · exact exec_reportStart (Link.startReport_idle (hidle.imp_right .inr))
  · exact exec_replyStart (Link.startReply_idle hidle)

/-- Settles O8. -/
theorem reportJoinsOrIsCounted : Obligations.ReportJoinsOrIsCounted := by
  refine fun l r => ⟨Link.join_room r, fun hfull hkeep => ?_, fun hfull hreplace => ?_⟩
  · rw [Link.join_full r hfull, if_neg (by simp [hkeep])]
    rfl
  · rw [Link.join_full r hfull, if_pos hreplace, List.drop_one]
    rfl

end Sys2Proof.Machine

namespace Sys2Proof.Machine

/-! ## The queue -/

theorem step_front {s : State} {c : Instr} {rest : List Instr} (h : s.pending = c :: rest) :
    step s = exec c { s with pending := rest } := by
  rw [step, h]

theorem step_idle {s : State} (h : s.pending = []) : step s = .next s := by
  rw [step, h]

/-- Settles O1, by the two forms of the queue. -/
theorem stepRunsFrontCommand : Obligations.StepRunsFrontCommand :=
  ⟨fun _ _ _ => step_front, fun _ => step_idle⟩

end Sys2Proof.Machine
